-- ==== Sys2Proof/Word.lean ====
section
/-! DEFINITION. The words, index types and two generic containers of the PJ-824 model.
Indices are bounded types, so that no record of the model can name a flow, port, slot or profile that
the part does not have (spec 00_scope, Conventions; R1). -/

namespace Sys2Proof

/-- A byte of a link, command or response record (R168). -/
abbrev Byte := BitVec 8

/-- The 32-bit epoch number, which wraps (R25). -/
abbrev Epoch := BitVec 32

/-- The 6-bit generation of a grant slot, which wraps from 63 to 0 (R68). -/
abbrev Generation := BitVec 6

/-- A flow index, F0 to F95 (R1). -/
abbrev Flow := Fin 96

/-- A target port, T0 to T7. -/
abbrev TargetPort := Fin 8

/-- A host port, H0 to H23. -/
abbrev HostPort := Fin 24

/-- A grant slot of an arbiter, 0 to 7 (R68). -/
abbrev Slot := Fin 8

/-- The class of a flow, 0 the most urgent (R3). -/
abbrev Urgency := Fin 8

/-- The group label of a flow (R3). -/
abbrev Group := Fin 8

/-- A controller profile, P0 to P7 (R23). -/
abbrev ProfileIx := Fin 8

/-- A record of the fault table, 0 to 7 (R161). -/
abbrev FaultIx := Fin 8

/-- A table of `n` entries, indexed by `Fin n`. -/
abbrev Table (α : Type) (n : Nat) := Vector α n

/-- The entry of a table at an index. -/
def Table.get {α : Type} {n : Nat} (t : Table α n) (i : Fin n) : α := t[i.val]

/-- A table with one entry replaced. -/
def Table.put {α : Type} {n : Nat} (t : Table α n) (i : Fin n) (a : α) : Table α n := t.set i.val a i.isLt

/-- The table whose entry at each index is given by a function. -/
def Table.tab {α : Type} {n : Nat} (f : Fin n → α) : Table α n := Vector.ofFn f

/-- The table that holds one value everywhere. -/
def Table.const {α : Type} (n : Nat) (a : α) : Table α n := Table.tab fun _ => a

/-- The two management ports (R119). -/
inductive MPort where
  /-- Management port A, always fitted. -/
  | a
  /-- Management port B, absent under SOLO high (R130). -/
  | b
deriving DecidableEq, Repr

/-- The port that a management port is not. -/
def MPort.other : MPort → MPort
  | .a => .b
  | .b => .a

/-- One value for each management port. -/
structure PerPort (α : Type) where
  /-- The value of port A. -/
  a : α
  /-- The value of port B. -/
  b : α
deriving DecidableEq, Repr

/-- The value that a management port has. -/
def PerPort.get {α : Type} (x : PerPort α) : MPort → α
  | .a => x.a
  | .b => x.b

/-- The pair with one port's value replaced. -/
def PerPort.put {α : Type} (x : PerPort α) (p : MPort) (v : α) : PerPort α :=
  match p with
  | .a => { x with a := v }
  | .b => { x with b := v }

/-- The same value at both ports. -/
def PerPort.both {α : Type} (v : α) : PerPort α := { a := v, b := v }

end Sys2Proof
end

