-- ==== Sys2Proof/Syntax.lean ====
section
/-! DEFINITION. The commands of the block: one constructor per row of spec/opcode_table.json.
A row that names a block of which there are several carries which one acts; a row at which something
arrives from outside carries what arrives. A row that takes a waiting message or request carries
nothing else, since the message stands in the state. -/

namespace Sys2Proof

/-- A fabric link record of 8 bytes, byte 0 first (R168, R169). -/
abbrev LinkRecord := Vector Byte 8

/-- A command record of 16 bytes, byte 0 first (R168, R172). -/
abbrev CommandRecord := Vector Byte 16

/-- The blocks that send fault reports and event postings to the Fault and Event Unit (R162, R165). -/
inductive Source where
  /-- The Link Interface. -/
  | link
  /-- The Grant Arbiter of a target port. -/
  | arbiter (e : TargetPort)
  /-- The Port Monitor of a target port. -/
  | monitor (e : TargetPort)
  /-- The Rate Engine. -/
  | rate
  /-- The Command Executor. -/
  | executor
deriving DecidableEq, Repr

/-- The steps of the part, as spec/opcode_table.json lists them. -/
inductive Instr where
  /-- POWER_ON_RESET (R133): RESET falls. -/
  | powerOnReset
  /-- RESET_RELEASE (R133): RESET rises; the operand is the SOLO level sampled while RESET was low. -/
  | resetRelease (solo : Bool)
  /-- EPOCH_EXPIRY (R25) at the Epoch Timer. -/
  | epochExpiry
  /-- ARBITER_EPOCH_EXPIRY (R27) at arbiter `e`. -/
  | arbiterEpochExpiry (e : TargetPort)
  /-- TALLY_ARRIVAL (R32): the oldest tally on its way from arbiter `e`. -/
  | tallyArrival (e : TargetPort)
  /-- TALLY_COMPUTATION (R34) at the Rate Engine. -/
  | tallyComputation
  /-- REFILL_SET (R41): arbiter `e` takes the oldest refill set on its way to it. -/
  | refillSet (e : TargetPort)
  /-- LANE_LOCK_GAIN (R170). -/
  | laneLockGain
  /-- LANE_LOCK_LOSS (R170). -/
  | laneLockLoss
  /-- RECORD_CHECK_FAILURE (R169): a record whose check byte is wrong arrives. -/
  | recordCheckFailure (r : LinkRecord)
  /-- UNKNOWN_KIND_RECORD (R169): a record of no inbound kind arrives. -/
  | unknownKindRecord (r : LinkRecord)
  /-- BACKLOG (R89): a BACKLOG record arrives. -/
  | backlog (r : LinkRecord)
  /-- BACKLOG_APPLY (R94): arbiter `e` takes a passed backlog report. -/
  | backlogApply (e : TargetPort)
  /-- DONE (R97): a DONE record arrives. -/
  | done (r : LinkRecord)
  /-- DONE_MATCH (R98): arbiter `e` takes a passed DONE record. -/
  | doneMatch (e : TargetPort)
  /-- TSTAT_ROUTE (R88): a TSTAT record arrives. -/
  | tstatRoute (r : LinkRecord)
  /-- TSTAT (R107): the Port Monitor of `e` takes a passed TSTAT record. -/
  | tstat (e : TargetPort)
  /-- LINK_LOSS_REQUEST (R117) at the Port Monitor of `e`. -/
  | linkLossRequest (e : TargetPort)
  /-- SHUTDOWN_REQUEST (R84) at arbiter `e`. -/
  | shutdownRequest (e : TargetPort)
  /-- GRANT_ISSUE (R77) at arbiter `e`. -/
  | grantIssue (e : TargetPort)
  /-- LINK_RECORD_SEND (R78): the oldest waiting record of arbiter `e` is sent. -/
  | linkRecordSend (e : TargetPort)
  /-- RETIREMENT_REPORT (R83): the executor takes the oldest report of arbiter `e`. -/
  | retirementReport (e : TargetPort)
  /-- FAULT_REPORT (R163): the unit takes the oldest fault report of a block. -/
  | faultReport (src : Source)
  /-- EVENT_POST (R165): the unit takes whole a block's oldest posting that names management port `p`, alone or with the
  other one. -/
  | eventPost (src : Source) (p : MPort)
  /-- PUSH (R120): a transaction into which the controller clocks these bytes, the selector byte first. It carries the port's
  transactions other than a PULL: a PUSH, and a PEEK or an ignored one, which have no row of their own (R119, R122). -/
  | push (p : MPort) (bytes : List Byte)
  /-- PULL (R121): a PULL transaction ends after shifting out `clocked` bytes. -/
  | pull (p : MPort) (clocked : Nat)
  /-- PORT_CLEAR (R131): the clear line of a port falls. -/
  | portClear (p : MPort)
  /-- COMMAND_TAKE (R125). -/
  | commandTake
  /-- COMMAND_END (R127). -/
  | commandEnd
  /-- UNKNOWN_COMMAND (R129). -/
  | unknownCommand
  /-- FLOW_SET (R137). -/
  | flowSet
  /-- FLOW_MODE_ENABLE (R140). -/
  | flowModeEnable
  /-- FLOW_MODE_DISABLE (R140). -/
  | flowModeDisable
  /-- FLOW_READ (R141). -/
  | flowRead
  /-- PORT_SET (R142). -/
  | portSet
  /-- PORT_READ (R144). -/
  | portRead
  /-- HOSTPORT_SET (R145). -/
  | hostportSet
  /-- PROFILE_SET (R146). -/
  | profileSet
  /-- EPOCH_SET (R147). -/
  | epochSet
  /-- RESHAPE_RESTART (R154). -/
  | reshapeRestart
  /-- RESHAPE_FREEZE (R155). -/
  | reshapeFreeze
  /-- RESHAPE_THAW (R155). -/
  | reshapeThaw
  /-- FENCE (R157): a FENCE with drain no. -/
  | fence
  /-- FENCE_DRAIN (R158): a FENCE with drain yes. -/
  | fenceDrain
  /-- ARBITER_READ (R158): an arbiter takes a fence read request. -/
  | arbiterRead
  /-- RESERVE_LOCK (R149). -/
  | reserveLock
  /-- RESERVE_UNLOCK (R150). -/
  | reserveUnlock
  /-- TRIP_CLEAR (R115). -/
  | tripClear
  /-- TRIP_CLEAR_REQUEST (R115) at a Port Monitor. -/
  | tripClearRequest
  /-- FAULT_READ (R164). -/
  | faultRead
  /-- FAULT_CLEAR (R164) with an index. -/
  | faultClear
  /-- FAULT_CLEAR_ALL (R164). -/
  | faultClearAll
  /-- EVENT_MASK (R167). -/
  | eventMask
  /-- EVENT_ACK (R167). -/
  | eventAck
  /-- RELEASE_REQUEST (R5) at the old arbiter of a flow. -/
  | releaseRequest
  /-- FLOW_TAKE_REQUEST (R138) at the new arbiter of a flow. -/
  | flowTakeRequest
  /-- BOUND_REQUEST (R4) at the Rate Engine. -/
  | boundRequest
  /-- FLOW_CONFIG_REQUEST (R13) at a flow's arbiter. -/
  | flowConfigRequest
  /-- TARGET_PORT_REQUEST (R139) at the Link Interface. -/
  | targetPortRequest
  /-- START_ENTRY (R18) at the Rate Engine. -/
  | startEntry
  /-- OFF_ENTRY (R20) at the Rate Engine. -/
  | offEntry
  /-- CLEARING_REQUEST (R20) at a flow's arbiter. -/
  | clearingRequest
  /-- RESHAPE_REQUEST (R153) at the Rate Engine. -/
  | reshapeRequest
  /-- PROFILE_REQUEST (R24) at the Rate Engine. -/
  | profileRequest
  /-- CAPACITY_REQUEST (R7) at the Rate Engine. -/
  | capacityRequest
  /-- PORT_REQUEST (R143) at an arbiter. -/
  | portRequest
  /-- MONITOR_REQUEST (R143) at a Port Monitor. -/
  | monitorRequest
  /-- EPOCH_SET_REQUEST (R26) at the Epoch Timer. -/
  | epochSetRequest
  /-- HOSTPORT_REQUEST (R145) at the Link Interface. -/
  | hostportRequest
  /-- PULL_SELECTOR_BYTE (R121): the port has received the selector byte of a PULL. -/
  | pullSelectorByte (p : MPort)
deriving DecidableEq, Repr

end Sys2Proof
end

