-- ==== Sys2Proof/Decode.lean ====
section
/-! DEFINITION. The decoding of a table word to a command. -/

namespace Sys2Proof

/-- The command that a word of the opcode table spells. No row of spec/opcode_table.json gives bits ("fields" is empty in
every row), so no word spells one; the byte layouts of the records that commands carry are in Machine/Operands.lean. -/
def decodeTableWord (_nbits _w : Nat) : Option Instr := none

end Sys2Proof
end

