-- ==== Sys2Proof/Config.lean ====
section
/-! DEFINITION. The capacities and limits that the manual fixes for every PJ-824, and the one value that it leaves open. -/

namespace Sys2Proof.Config

/-- Commands a command queue, and responses plus promised slots a response queue, hold at most (R123). -/
abbrev queueDepth : Nat := 16

/-- The consecutive check failure that takes an UP fabric link DOWN (R170). -/
abbrev failLimit : Nat := 8

/-- The consecutive good record that takes a DOWN fabric link UP (R170). -/
abbrev goodLimit : Nat := 4

/-- The largest cell count a DONE record may carry (R97). -/
abbrev maxGrantCells : Nat := 1024

/-- Where delivered this epoch saturates (R14). -/
abbrev deliveredMax : Nat := 65535

/-- Where the controller caps the delivered figure for the error (R45). -/
abbrev errorDeliveredMax : Nat := 16383

/-- Where the start count saturates (R9). -/
abbrev startCountMax : Nat := 15

/-- Where the repeat count of a fault record saturates (R161). -/
abbrev repeatMax : Nat := 255

/-- Bytes of a command record (R168). -/
abbrev recordBytes : Nat := 16

/-- Bytes of a response record (R168). -/
abbrev responseBytes : Nat := 32

/-- The `k`-th byte that a management port shifts out after the status byte of a PUSH. DESIGN CHOICE, a free value: R120 says only
that the bytes clocked in then are ignored, and R171 stops at the status byte (log entry 29). -/
opaque afterStatus (p : MPort) (k : Nat) : Byte

end Sys2Proof.Config
end

