-- ==== Sys2Proof/Machine/Types.lean ====
section
/-! DEFINITION. The records that the blocks of the PJ-824 hold and the messages that they send one another. -/

namespace Sys2Proof.Machine

/-! ## The flow table (R2) -/

/-- The configuration fields of a flow record (R3), as the Command Executor holds them. -/
structure FlowConfig where
  port : TargetPort
  group : Group
  urgency : Urgency
  weight : Nat
  floor : Nat
  ceiling : Nat
  burstCap : Nat
  profile : ProfileIx
  tripEnable : Bool
deriving DecidableEq, Repr

/-- The three states of a flow (R17). -/
inductive FlowState where
  | off
  | start
  | run
deriving DecidableEq, Repr

/-- Whether a flow's last rate was clamped, and at which side (R9, R55). -/
inductive Saturation where
  | none
  | high
  | low
deriving DecidableEq, Repr

/-- The controller fields of a flow record (R6). -/
structure Controller where
  state : FlowState
  frozen : Bool
  rate : Nat
  integrator : Int
  lastTarget : Nat
  lastError : Int
  saturation : Saturation
  startCount : Nat
deriving DecidableEq, Repr

/-- The Rate Engine's view of a flow's configuration (R2). -/
structure RateView where
  port : TargetPort
  group : Group
  weight : Nat
  floor : Nat
  ceiling : Nat
  profile : ProfileIx
  tripEnable : Bool
deriving DecidableEq, Repr

/-- What the Rate Engine holds for one flow. -/
structure RateFlow where
  view : RateView
  ctl : Controller
deriving DecidableEq, Repr

/-- The demand and token fields of a flow record (R10). -/
structure Demand where
  backlog : Nat
  flush : Bool
  outstanding : Nat
  grantCount : Nat
  balance : Nat
  delivered : Nat
deriving DecidableEq, Repr

/-- An arbiter's view of a flow's configuration (R2). -/
structure ArbiterView where
  urgency : Urgency
  burstCap : Nat
  tripEnable : Bool
deriving DecidableEq, Repr

/-- What the arbiters hold for one flow: which of them holds it (none between the release at the old
arbiter and the take at the new one, R139), that arbiter's view of it, and its demand and token fields. -/
structure ArbiterFlow where
  holder : Option TargetPort
  view : ArbiterView
  demand : Demand
deriving DecidableEq, Repr

/-- A host port record (R22). -/
structure HostRecord where
  tagged : Bool
  limit : Nat
deriving DecidableEq, Repr

/-- A controller profile (R23). -/
structure Profile where
  kp : Nat
  kpShift : Nat
  ki : Nat
  kiShift : Nat
  positiveClamp : Nat
  negativeClamp : Nat
  startClamp : Nat
  integratorClamp : Nat
  startStep : Nat
  startHold : Nat
  windupStop : Bool
deriving DecidableEq, Repr

/-! ## Faults and events -/

/-- The kinds of fault (R162). -/
inductive FaultKind where
  | grantExpired
  | lateDone
  | overrun
  | misroute
  | tagMissing
  | unboundReport
  | backlogClamped
  | badRecord
  | linkCheck
  | portDown
  | tallyMerged
deriving DecidableEq, Repr

/-- A fault report, which is also the key of a fault record (R161, R162). -/
structure FaultReport where
  kind : FaultKind
  flow : Option Flow
  port : Option TargetPort
deriving DecidableEq, Repr

/-- A fault record in use (R161). -/
structure FaultRecord where
  key : FaultReport
  first : Epoch
  last : Epoch
  count : Nat
deriving DecidableEq, Repr

/-- The five event causes (R165). -/
inductive Cause where
  | fenceDone
  | fault
  | trip
  | portDown
  | linkDown
deriving DecidableEq, Repr

/-- A set of event causes: a pending set, a mask, or the set that a command carries (R165, R166). -/
structure CauseSet where
  fenceDone : Bool
  fault : Bool
  trip : Bool
  portDown : Bool
  linkDown : Bool
deriving DecidableEq, Repr

/-- An event posting that a block sends the Fault and Event Unit, which takes it whole (R165). -/
inductive Posting where
  /-- A cause posted to both management ports. -/
  | toBoth (c : Cause)
  /-- A cause posted to one of them. -/
  | toPort (p : MPort) (c : Cause)
deriving DecidableEq, Repr

/-- The state of the Fault and Event Unit. -/
structure FaultUnit where
  /-- The fault table; `none` is an empty record (R161). -/
  table : Table (Option FaultRecord) 8
  overflow : Bool
  /-- The event pending set of each port (R165). -/
  pending : PerPort CauseSet
  /-- The event mask of each port, true for masked (R166). -/
  mask : PerPort CauseSet
deriving DecidableEq, Repr

/-! ## Grants and tallies -/

/-- A grant tag (R69). -/
structure GrantTag where
  port : TargetPort
  slot : Slot
  generation : Generation
deriving DecidableEq, Repr

/-- An outstanding grant, as its slot holds it (R68). -/
structure Grant where
  flow : Flow
  issued : Nat
  remaining : Nat
  age : Nat
deriving DecidableEq, Repr

/-- A grant slot; it is busy when it holds a grant (R68). -/
structure GrantSlot where
  generation : Generation
  grant : Option Grant
deriving DecidableEq, Repr

/-- The entry of a tally for one flow (R30). -/
structure TallyEntry where
  flow : Flow
  delivered : Nat
  demanding : Bool
  grants : Nat
deriving DecidableEq, Repr

/-- A tally (R30). -/
structure Tally where
  port : TargetPort
  entries : List TallyEntry
deriving DecidableEq, Repr

/-- A refill set: a refill for each flow it names (R41). -/
abbrev RefillSet := List (Flow × Nat)

/-- An outbound link record, before it is laid out as bytes (R169). -/
inductive OutRecord where
  | grant (tag : GrantTag) (flow : Flow) (cells : Nat)
  | cancel (tag : GrantTag) (flow : Flow) (remaining : Nat)
deriving DecidableEq, Repr

/-- A record that the Link Interface has passed to an arbiter (R88). -/
inductive ArbiterMsg where
  | backlog (flow : Flow) (cells : Nat) (flush : Bool)
  | done (tag : GrantTag) (cells : Nat) (endMark : Bool)
deriving DecidableEq, Repr

/-- What the Link Interface has sent to a Port Monitor (R107, R117). -/
inductive MonitorMsg where
  | status (up : Bool) (level : Nat)
  | linkLoss
deriving DecidableEq, Repr

/-- What an arbiter has sent to the Command Executor in its one ordered stream (R83, R158). -/
inductive ExecutorMsg where
  | retired (tag : GrantTag)
  | answer (tags : List GrantTag)
deriving DecidableEq, Repr

/-! ## Ports -/

/-- The target port fields that the Command Executor holds (R134, R142). -/
structure PortConfig where
  capacity : Nat
  reserve : Nat
  maxGrant : Nat
  minGrant : Nat
  lifetime : Nat
  urgentSlots : Nat
  classMask : Nat
deriving DecidableEq, Repr

/-- An arbiter's view of its port's configuration (R67). -/
structure PortView where
  capacity : Nat
  maxGrant : Nat
  minGrant : Nat
  lifetime : Nat
  urgentSlots : Nat
  classMask : Nat
deriving DecidableEq, Repr

/-- A Port Monitor (R106), with what is on its way to it and what it has sent the Fault and Event Unit. -/
structure Monitor where
  enable : Bool
  linkUp : Bool
  level : Nat
  threshold : Nat
  tripFlag : Bool
  /-- Passed TSTAT records and link-loss requests not yet taken, oldest first (R117). -/
  inbox : List MonitorMsg
  reports : List FaultReport
  posts : List Posting
deriving DecidableEq, Repr

/-- A Grant Arbiter (R67), with what is on its way to it and what it has sent. -/
structure Arbiter where
  slots : Table GrantSlot 8
  /-- The rotation pointer of each class (R75). -/
  rotation : Table Flow 8
  /-- The port grant budget (R29). -/
  budget : Nat
  /-- The cells granted since the last close (R29). -/
  granted : Nat
  view : PortView
  /-- Epoch expiries delivered and not yet taken (R25). -/
  expiries : Nat
  /-- Records the Link Interface has passed, oldest first (R88). -/
  inbox : List ArbiterMsg
  /-- Refill sets on their way from the Rate Engine, oldest first (R41). -/
  refills : List RefillSet
  /-- Shutdown requests not yet taken, oldest first; true calls for CANCEL records (R84, R109). -/
  shutdowns : List Bool
  /-- Tallies sent to the Rate Engine that have not reached it, oldest first (R32). -/
  tallies : List Tally
  /-- Retirement reports and fence answers that the executor has not taken, oldest first (R83, R158). -/
  toExecutor : List ExecutorMsg
  reports : List FaultReport
deriving DecidableEq, Repr

/-! ## The other blocks -/

/-- The codes of the epoch period (R26). -/
inductive Period where
  | us8
  | us16
  | us32
  | us64
deriving DecidableEq, Repr

/-- The Epoch Timer (R25, R26). -/
structure EpochTimer where
  period : Period
  pendingPeriod : Option Period
  epoch : Epoch
deriving DecidableEq, Repr

/-- The Link Interface: its link state (R170), its view of the configuration (R2), and its records. -/
structure LinkInterface where
  up : Bool
  failCount : Nat
  goodCount : Nat
  /-- Lane lock, a condition of the receive lane that the part does not control (R170). -/
  laneLock : Bool
  hosts : Table HostRecord 24
  flowPort : Table TargetPort 96
  /-- GRANT and CANCEL records of each arbiter not yet sent, oldest first (R78). -/
  waiting : Table (List OutRecord) 8
  /-- The record most recently sent on the outbound link: the model's own field, which shows the output. -/
  sent : Option LinkRecord
  reports : List FaultReport
  posts : List Posting
deriving DecidableEq, Repr

/-- The Rate Engine. -/
structure RateEngine where
  flows : Table RateFlow 96
  profiles : Table Profile 8
  /-- Its view of each port's capacity (R38, R143). -/
  capacity : Table Nat 8
  /-- The tally queue, head first (R32). -/
  queue : List Tally
  reports : List FaultReport
deriving DecidableEq, Repr

/-! ## Commands -/

/-- The scope kinds that a response can report as performed (R127, R173). -/
inductive ScopeKind where
  | flowset
  | group
  | port
  | all
  | none
deriving DecidableEq, Repr

/-- A RESHAPE scope (R152). -/
inductive Scope where
  | flowset (base : Flow) (mask : Nat)
  | group (g : Group)
  | port (e : TargetPort)
  | all
deriving DecidableEq, Repr

/-- A RESHAPE action (R152). -/
inductive Action where
  | restart
  | freeze
  | thaw
deriving DecidableEq, Repr

/-- The fields a FLOW_SET names, with the values it carries before clamping (R137). -/
structure FlowWrite where
  port : Option TargetPort
  group : Option Nat
  urgency : Option Nat
  weight : Option Nat
  floor : Option Nat
  ceiling : Option Nat
  burstCap : Option Nat
  profile : Option ProfileIx
  tripEnable : Option Bool
deriving DecidableEq, Repr

/-- The fields a PORT_SET names, with the values it carries before clamping (R142). -/
structure PortWrite where
  capacity : Option Nat
  reserve : Option Nat
  maxGrant : Option Nat
  minGrant : Option Nat
  lifetime : Option Nat
  urgentSlots : Option Nat
  classMask : Option Nat
  threshold : Option Nat
  enable : Option Bool
deriving DecidableEq, Repr

/-- The fields a HOSTPORT_SET names (R145). -/
structure HostWrite where
  tagged : Option Bool
  limit : Option Nat
deriving DecidableEq, Repr

/-- The fields a PROFILE_SET names (R146). -/
structure ProfileWrite where
  kp : Option Nat
  kpShift : Option Nat
  ki : Option Nat
  kiShift : Option Nat
  positiveClamp : Option Nat
  negativeClamp : Option Nat
  startClamp : Option Nat
  integratorClamp : Option Nat
  startStep : Option Nat
  startHold : Option Nat
  windupStop : Option Bool
deriving DecidableEq, Repr

/-- A command record that has passed the two checks of R129. -/
inductive Command where
  | flowSet (f : Flow) (w : FlowWrite)
  | flowMode (f : Flow) (enable : Bool)
  | flowRead (f : Flow)
  | portSet (e : TargetPort) (w : PortWrite)
  | portRead (e : TargetPort) (sect : Fin 3)
  | hostportSet (h : HostPort) (w : HostWrite)
  | profileSet (p : ProfileIx) (w : ProfileWrite)
  | epochSet (p : Period)
  | reshape (scope : Scope) (action : Action)
  | fence (notify drain : Bool)
  | reserveLock
  | reserveUnlock
  | tripClear (e : TargetPort)
  | faultRead (i : FaultIx)
  | faultClear (i : FaultIx)
  | faultClearAll
  | eventMask (set : CauseSet)
  | eventAck (set : CauseSet)
deriving DecidableEq, Repr

/-- The outcome of the two checks that come before any of a command's own (R129). -/
inductive Checked where
  /-- The kind names no command: REFUSED_UNKNOWN. -/
  | unknown
  /-- An index or code is out of range, or a presence set is malformed: REFUSED_RANGE. -/
  | range
  | ok (c : Command)
deriving DecidableEq, Repr

/-- The status codes (R128). -/
inductive Status where
  | done
  | clamped
  | consentHeld
  | refusedRange
  | refusedReserve
  | refusedLocked
  | refusedBusy
  | refusedLinkdown
  | refusedTripped
  | refusedUnknown
deriving DecidableEq, Repr

/-- What a FLOW_READ returns (R141). -/
structure FlowSnapshot where
  config : FlowConfig
  ctl : Controller
  demand : Demand
  tripped : Bool
deriving DecidableEq, Repr

/-- The condition part of a PORT_READ of section 0 (R144). -/
structure PortCondition where
  enable : Bool
  linkUp : Bool
  level : Nat
  threshold : Nat
  tripFlag : Bool
deriving DecidableEq, Repr

/-- What a PORT_READ of section 0 returns (R144). -/
structure PortSnapshot where
  config : PortConfig
  floorSum : Nat
  condition : PortCondition
  budget : Nat
deriving DecidableEq, Repr

/-- The payload of a response (R127). -/
inductive Payload where
  | absent
  | flow (x : FlowSnapshot)
  | port (x : PortSnapshot)
  /-- The slot summary of R87, four slots in slot order. -/
  | slots (xs : List GrantSlot)
  | fault (record : Option FaultRecord) (overflow : Bool)
deriving DecidableEq, Repr

/-- A response record, before it is laid out as bytes (R127). -/
structure Response where
  tag : Byte
  kind : Byte
  status : Status
  scope : Option ScopeKind
  payload : Payload
deriving DecidableEq, Repr

/-- A request that the Command Executor sends another block for the command in execution (R126). -/
inductive Request where
  /-- To the old arbiter of a moving flow (R5). -/
  | release (f : Flow) (old : TargetPort)
  /-- To the new arbiter of a moving flow (R138, order 1). -/
  | flowTake (f : Flow) (e : TargetPort) (v : ArbiterView)
  /-- To the Rate Engine (R138, order 2). -/
  | bound (f : Flow) (v : RateView)
  /-- To the arbiter of the flow's target port (R138, order 3). -/
  | flowConfig (f : Flow) (v : ArbiterView)
  /-- To the Link Interface (R138, order 4). -/
  | targetPort (f : Flow) (e : TargetPort)
  /-- To the Rate Engine: FLOW_MODE enable (R140). -/
  | startEntry (f : Flow)
  /-- To the Rate Engine: FLOW_MODE disable (R140). -/
  | offEntry (f : Flow)
  /-- From the Rate Engine to the flow's arbiter, as the second part of a disable (R20). -/
  | clearing (f : Flow)
  /-- To the Rate Engine: the controller fields of a FLOW_READ (R141). -/
  | readController (f : Flow)
  /-- To the flow's arbiter: the demand and token fields of a FLOW_READ (R141). -/
  | readDemand (f : Flow)
  /-- To the Port Monitor: the tripped condition of a FLOW_READ (R141). -/
  | readTripped (e : TargetPort)
  /-- To the Port Monitor (R143). -/
  | monitor (e : TargetPort) (enable : Option Bool) (threshold : Option Nat)
  /-- To the Rate Engine (R143). -/
  | capacity (e : TargetPort) (cells : Nat)
  /-- To the arbiter of the port (R143). -/
  | port (e : TargetPort) (v : PortView)
  /-- To the Port Monitor: the condition part of a PORT_READ (R144). -/
  | readCondition (e : TargetPort)
  /-- To the arbiter: the arbitration part of a PORT_READ (R144). -/
  | readBudget (e : TargetPort)
  /-- To the arbiter: the slot summary of slots 0 to 3, or of slots 4 to 7 (R144). -/
  | readSlots (e : TargetPort) (upper : Bool)
  /-- To the Link Interface (R145). -/
  | hostport (h : HostPort) (x : HostRecord)
  /-- To the Rate Engine (R146); the values are clamped. -/
  | profile (p : ProfileIx) (w : ProfileWrite)
  /-- To the Epoch Timer (R147). -/
  | epochSet (p : Period)
  /-- To the Rate Engine (R153). -/
  | reshape (scope : Scope) (action : Action)
  /-- To an arbiter: a fence read (R158). -/
  | fenceRead (e : TargetPort)
  /-- The answer to a fence read, on its way from the arbiter (R158). -/
  | fenceAnswer (e : TargetPort)
  /-- To the Port Monitor (R115). -/
  | tripClear (e : TargetPort)
  /-- To the Fault and Event Unit (R164, R167). -/
  | faultRead (i : FaultIx)
  | faultClear (i : FaultIx)
  | faultClearAll
  | eventMask (set : CauseSet)
  | eventAck (set : CauseSet)
deriving DecidableEq, Repr

/-- Configuration that the executor writes once the guarding request is accepted (R137, R143). -/
inductive Commit where
  | flow (f : Flow) (x : FlowConfig)
  | port (e : TargetPort) (x : PortConfig)
deriving DecidableEq, Repr

/-- The command in execution (R126). -/
structure Running where
  port : MPort
  tag : Byte
  kind : Byte
  /-- The requests not yet taken, in the order they are sent; only the first has been sent. -/
  todo : List Request
  /-- The write that waits for the first request to be accepted. -/
  commit : Option Commit
  status : Status
  scope : Option ScopeKind
  payload : Payload
  /-- For a FENCE with drain: notify, and the tags captured so far that have not retired (R158). -/
  notify : Bool
  drain : List GrantTag
deriving DecidableEq, Repr

/-- A waiting fence (R158). -/
structure Fence where
  tag : Byte
  kind : Byte
  notify : Bool
  drain : List GrantTag
deriving DecidableEq, Repr

/-- A PULL in progress: what the selector byte fixed, and whether that response still stands at the
head of the queue (R121). -/
structure PullTransfer where
  response : Option Response
  standing : Bool
deriving DecidableEq, Repr

/-- What the Command Executor holds for a management port (R123). -/
structure MgmtPort where
  commands : List CommandRecord
  responses : List Response
  /-- Whether a response slot is promised (R123: never more than one). -/
  promised : Bool
  fence : Option Fence
  /-- The PULL in progress, if any (R121). -/
  pulling : Option PullTransfer
  /-- The bytes that the port shifted out in its last transaction, the selector byte time first: the model's own field,
  which shows the output. -/
  miso : List Byte
  /-- How many free bytes the port has shifted out: the model's own field, which counts the values of `Config.afterStatus`
  that have been used (log entry 29). -/
  drawn : Nat
deriving DecidableEq, Repr

/-- The Command Executor. -/
structure Executor where
  flows : Table FlowConfig 96
  ports : Table PortConfig 8
  hosts : Table HostRecord 24
  mgmt : PerPort MgmtPort
  running : Option Running
  /-- The alternation preference (R125). -/
  preference : MPort
  /-- The reserve lock; true is closed (R148). -/
  lockClosed : Bool
  /-- The consent set (R148). -/
  consent : PerPort Bool
  posts : List Posting
deriving DecidableEq, Repr

end Sys2Proof.Machine
end

