-- ==== Sys2Proof/Machine/PowerOn.lean ====
section
/-! DEFINITION. The power-on value of every piece of state, record by record. -/

namespace Sys2Proof.Machine

/-- R3: bound to T0, group 0, class 7, weight 1, floor 0, ceiling 16383, burst cap 1024, P0, no trip enable. -/
def powerOnFlowConfig : FlowConfig :=
  { port := 0, group := 0, urgency := 7, weight := 1, floor := 0, ceiling := 16383,
    burstCap := 1024, profile := 0, tripEnable := false }

/-- R6. -/
def powerOnController : Controller :=
  { state := .off, frozen := false, rate := 0, integrator := 0, lastTarget := 0, lastError := 0,
    saturation := .none, startCount := 0 }

/-- The part of a flow's configuration that the Rate Engine uses (R2). -/
def rateViewOf (c : FlowConfig) : RateView :=
  { port := c.port, group := c.group, weight := c.weight, floor := c.floor, ceiling := c.ceiling,
    profile := c.profile, tripEnable := c.tripEnable }

/-- The part of a flow's configuration that an arbiter uses (R2). -/
def arbiterViewOf (c : FlowConfig) : ArbiterView :=
  { urgency := c.urgency, burstCap := c.burstCap, tripEnable := c.tripEnable }

/-- The part of a port's configuration that its arbiter uses (R67). -/
def portViewOf (c : PortConfig) : PortView :=
  { capacity := c.capacity, maxGrant := c.maxGrant, minGrant := c.minGrant, lifetime := c.lifetime,
    urgentSlots := c.urgentSlots, classMask := c.classMask }

/-- R10, and the values a flow has at an arbiter that has just taken it (R5). -/
def zeroDemand : Demand :=
  { backlog := 0, flush := false, outstanding := 0, grantCount := 0, balance := 0, delivered := 0 }

/-- R22. -/
def powerOnHost : HostRecord := { tagged := false, limit := 65535 }

/-- R23. -/
def powerOnProfile : Profile :=
  { kp := 0, kpShift := 0, ki := 0, kiShift := 0, positiveClamp := 16383, negativeClamp := 16383,
    startClamp := 16383, integratorClamp := 0, startStep := 16383, startHold := 0, windupStop := false }

/-- R134. -/
def powerOnPort : PortConfig :=
  { capacity := 1024, reserve := 0, maxGrant := 256, minGrant := 8, lifetime := 4, urgentSlots := 0,
    classMask := 7 }

/-- R106, with nothing on its way. -/
def powerOnMonitor : Monitor :=
  { enable := false, linkUp := false, level := 0, threshold := 4, tripFlag := false, inbox := [],
    reports := [], posts := [] }

/-- R67 and R68, with nothing on its way. -/
def powerOnArbiter : Arbiter :=
  { slots := Table.const 8 { generation := 0, grant := none }, rotation := Table.const 8 0,
    budget := 1024, granted := 0, view := portViewOf powerOnPort, expiries := 0, inbox := [],
    refills := [], shutdowns := [], tallies := [], toExecutor := [], reports := [] }

/-- R25: period 16 µs, no pending period, epoch number 0. -/
def powerOnTimer : EpochTimer := { period := .us16, pendingPeriod := none, epoch := 0 }

/-- R170, with the lane lock that the receive lane has. -/
def powerOnLink (lock : Bool) : LinkInterface :=
  { up := false, failCount := 0, goodCount := 0, laneLock := lock, hosts := Table.const 24 powerOnHost,
    flowPort := Table.const 96 powerOnFlowConfig.port, waiting := Table.const 8 [], sent := none,
    reports := [], posts := [] }

/-- R6, R23, R32. -/
def powerOnRate : RateEngine :=
  { flows := Table.const 96 { view := rateViewOf powerOnFlowConfig, ctl := powerOnController },
    profiles := Table.const 8 powerOnProfile, capacity := Table.const 8 powerOnPort.capacity,
    queue := [], reports := [] }

/-- R10: every flow starts at the arbiter of T0, its power-on target port. -/
def powerOnArbiterFlow : ArbiterFlow :=
  { holder := some powerOnFlowConfig.port, view := arbiterViewOf powerOnFlowConfig, demand := zeroDemand }

/-- R134: no command, response, promise, fence or transaction. What the model's own fields hold is its choice (log entries 19
and 29). -/
def powerOnMgmt : MgmtPort :=
  { commands := [], responses := [], promised := false, fence := none, pulling := none, miso := [], drawn := 0 }

/-- R134. -/
def powerOnExecutor : Executor :=
  { flows := Table.const 96 powerOnFlowConfig, ports := Table.const 8 powerOnPort,
    hosts := Table.const 24 powerOnHost, mgmt := PerPort.both powerOnMgmt, running := none,
    preference := .a, lockClosed := false, consent := PerPort.both false, posts := [] }

/-- The empty set of causes. -/
def noCauses : CauseSet :=
  { fenceDone := false, fault := false, trip := false, portDown := false, linkDown := false }

/-- Every cause; as a mask, all masked (R166). -/
def allCauses : CauseSet :=
  { fenceDone := true, fault := true, trip := true, portDown := true, linkDown := true }

/-- R161, R165, R166. -/
def powerOnUnit : FaultUnit :=
  { table := Table.const 8 none, overflow := false, pending := PerPort.both noCauses,
    mask := PerPort.both allCauses }

end Sys2Proof.Machine
end

