-- ==== Sys2Proof/Machine/Flags.lean ====
section
/-! DEFINITION. Event causes, pending sets, masks and the clamps of configuration values. -/

namespace Sys2Proof.Machine

/-- Whether a set holds a cause. -/
def CauseSet.has (x : CauseSet) : Cause → Bool
  | .fenceDone => x.fenceDone
  | .fault => x.fault
  | .trip => x.trip
  | .portDown => x.portDown
  | .linkDown => x.linkDown

/-- The set with a cause added; a cause already held changes nothing (R165). -/
def CauseSet.add (x : CauseSet) : Cause → CauseSet
  | .fenceDone => { x with fenceDone := true }
  | .fault => { x with fault := true }
  | .trip => { x with trip := true }
  | .portDown => { x with portDown := true }
  | .linkDown => { x with linkDown := true }

/-- The set without the causes of another (R167). -/
def CauseSet.without (x y : CauseSet) : CauseSet :=
  { fenceDone := x.fenceDone && !y.fenceDone, fault := x.fault && !y.fault, trip := x.trip && !y.trip,
    portDown := x.portDown && !y.portDown, linkDown := x.linkDown && !y.linkDown }

/-- Whether a set holds any cause. -/
def CauseSet.any (x : CauseSet) : Bool := x.fenceDone || x.fault || x.trip || x.portDown || x.linkDown

/-- Clamp a value into a range (spec 00_scope, Conventions). -/
def clampNat (lo hi v : Nat) : Nat := max lo (min hi v)

/-- Clamp a signed value into a range. -/
def clampInt (lo hi v : Int) : Int := max lo (min hi v)

/-- Clamp a value into 0 to 7. -/
def clampFin8 (v : Nat) : Fin 8 := ⟨min v 7, by omega⟩

/-! The ranges of the table of R136, field by field. -/

/-- FLOW_SET weight. -/
def clampWeight (v : Nat) : Nat := clampNat 1 255 v
/-- FLOW_SET floor and ceiling; PROFILE_SET error clamps. -/
def clampCells (v : Nat) : Nat := clampNat 0 16383 v
/-- FLOW_SET burst cap. -/
def clampBurst (v : Nat) : Nat := clampNat 16 65535 v
/-- PORT_SET capacity. -/
def clampCapacity (v : Nat) : Nat := clampNat 16 16383 v
/-- PORT_SET maximum grant. -/
def clampMaxGrant (v : Nat) : Nat := clampNat 1 1024 v
/-- PORT_SET minimum grant. -/
def clampMinGrant (v : Nat) : Nat := clampNat 1 64 v
/-- PORT_SET grant lifetime. -/
def clampLifetime (v : Nat) : Nat := clampNat 1 15 v
/-- PORT_SET urgent slots. -/
def clampUrgentSlots (v : Nat) : Nat := clampNat 0 2 v
/-- PORT_SET class mask. -/
def clampClassMask (v : Nat) : Nat := clampNat 0 7 v
/-- PORT_SET trip threshold. -/
def clampThreshold (v : Nat) : Nat := clampNat 1 4 v
/-- HOSTPORT_SET backlog limit. -/
def clampLimit (v : Nat) : Nat := clampNat 256 65535 v
/-- PROFILE_SET kp and ki. -/
def clampGain (v : Nat) : Nat := clampNat 0 4095 v
/-- PROFILE_SET kp shift, ki shift and start hold. -/
def clampShift (v : Nat) : Nat := clampNat 0 15 v
/-- PROFILE_SET integrator clamp. -/
def clampIntegratorClamp (v : Nat) : Nat := clampNat 0 262143 v
/-- PROFILE_SET start step. -/
def clampStartStep (v : Nat) : Nat := clampNat 1 16383 v

/-- Whether a carried value, where the command names it, is outside what a clamp leaves alone. -/
def moved (clamp : Nat → Nat) (v : Option Nat) : Bool :=
  match v with
  | some x => clamp x != x
  | none => false

/-- DONE, or CLAMPED when a written value differs from the one carried (R136). -/
def doneOr (clamped : Bool) : Status := if clamped then .clamped else .done

end Sys2Proof.Machine
end

