-- ==== Sys2Proof/Machine/Operands.lean ====
section
/-! DEFINITION. The record formats: the fields of inbound link records and of command records, and the bytes
of outbound link records and of responses (spec 11_record_formats.md). -/

namespace Sys2Proof.Machine

/-! ## Fields of several bytes (R168) -/

/-- A field of two bytes, the most significant first. -/
def be16 (hi lo : Byte) : Nat := hi.toNat * 256 + lo.toNat

/-- A field of three bytes, the most significant first. -/
def be24 (hi mid lo : Byte) : Nat := (hi.toNat * 256 + mid.toNat) * 256 + lo.toNat

/-- A number as one byte. -/
def byteOf (n : Nat) : Byte := BitVec.ofNat 8 n

/-- A number as two bytes. -/
def bytes16 (n : Nat) : List Byte := [byteOf (n / 256), byteOf n]

/-- A number as three bytes. -/
def bytes24 (n : Nat) : List Byte := [byteOf (n / 65536), byteOf (n / 256), byteOf n]

/-- A number as four bytes. -/
def bytes32 (n : Nat) : List Byte :=
  [byteOf (n / 16777216), byteOf (n / 65536), byteOf (n / 256), byteOf n]

/-- An index below a bound, when the number is one. -/
def indexOf (n v : Nat) : Option (Fin n) := if h : v < n then some ⟨v, h⟩ else none

/-- One bit for a yes-or-no value (R173). -/
def bitOf (b : Bool) : Nat := if b then 1 else 0

/-! ## The check of a link record (R169) -/

/-- One shift of the check register; when the bit shifted out is 1, the register is combined with 7. -/
def crcShift (reg : Byte) : Byte := if reg.msb then (reg <<< 1) ^^^ 7#8 else reg <<< 1

/-- A byte combined into the check register, which is then shifted eight times. -/
def crcByte (reg b : Byte) : Byte := Nat.iterate crcShift 8 (reg ^^^ b)

/-- The CRC-8 of a sequence of bytes: the register starts at 0 and no final inversion is applied. -/
def crc8 (bytes : List Byte) : Byte := bytes.foldl crcByte 0

/-- Whether the check byte of a link record equals the value computed over bytes 0 to 6. -/
def checkPasses (r : LinkRecord) : Bool := crc8 [r[0], r[1], r[2], r[3], r[4], r[5], r[6]] == r[7]

/-- The record with the given bytes 0 to 6 and the check computed over them. -/
def withCheck (b0 b1 b2 b3 b4 b5 b6 : Byte) : LinkRecord :=
  #v[b0, b1, b2, b3, b4, b5, b6, crc8 [b0, b1, b2, b3, b4, b5, b6]]

/-! ## Inbound link records (R169) -/

/-- The kinds of an inbound record. -/
inductive InboundKind where
  | backlog
  | done
  | tstat
  | unknown
deriving DecidableEq, Repr

/-- The kind that byte 0 names: 1, 2 and 3 are the inbound kinds. -/
def inboundKind (r : LinkRecord) : InboundKind :=
  if r[0] = 1#8 then .backlog else if r[0] = 2#8 then .done else if r[0] = 3#8 then .tstat else .unknown

/-- The fields of a BACKLOG record (R89). -/
structure BacklogFields where
  host : Nat
  tag : Fin 4
  tagValid : Bool
  port : TargetPort
  cells : Nat
  flush : Bool
deriving DecidableEq, Repr

/-- The layout of a BACKLOG record. -/
def backlogFields (r : LinkRecord) : BacklogFields :=
  { host := r[1].toNat / 8
    tag := ⟨r[1].toNat / 2 % 4, by omega⟩
    tagValid := r[1].getLsbD 0
    port := ⟨r[2].toNat % 8, by omega⟩
    cells := be16 r[3] r[4]
    flush := r[2].getLsbD 7 }

/-- The grant tag in the low 12 bits of a 2-byte field. -/
def tagOf (n : Nat) : GrantTag :=
  { port := ⟨n / 512 % 8, by omega⟩, slot := ⟨n / 64 % 8, by omega⟩, generation := BitVec.ofNat 6 n }

/-- The 12-bit number of a grant tag. -/
def tagNumber (t : GrantTag) : Nat := t.port.val * 512 + t.slot.val * 64 + t.generation.toNat

/-- The fields of a DONE record (R97). -/
structure DoneFields where
  tag : GrantTag
  cells : Nat
  endMark : Bool
deriving DecidableEq, Repr

/-- The layout of a DONE record. -/
def doneFields (r : LinkRecord) : DoneFields :=
  { tag := tagOf (be16 r[1] r[2]), cells := be16 r[3] r[4], endMark := r[5].getLsbD 0 }

/-- The fields of a TSTAT record (R107). -/
structure TstatFields where
  port : TargetPort
  up : Bool
  level : Nat
deriving DecidableEq, Repr

/-- The layout of a TSTAT record. -/
def tstatFields (r : LinkRecord) : TstatFields :=
  { port := ⟨r[1].toNat % 8, by omega⟩, up := r[2].getLsbD 0, level := r[3].toNat % 4 }

/-! ## Outbound link records (R169) -/

/-- Byte 3 of a GRANT or CANCEL: the flow's host port and tag, with bit 0 set to 1. -/
def flowByte (f : Flow) : Byte := byteOf (f.val / 4 * 8 + f.val % 4 * 2 + 1)

/-- The bytes of an outbound record; code 9 is GRANT and code 10 is CANCEL. -/
def outBytes : OutRecord → LinkRecord
  | .grant t f n =>
    withCheck 9 (byteOf (tagNumber t / 256)) (byteOf (tagNumber t)) (flowByte f) (byteOf (n / 256)) (byteOf n) 0
  | .cancel t f n =>
    withCheck 10 (byteOf (tagNumber t / 256)) (byteOf (tagNumber t)) (flowByte f) (byteOf (n / 256)) (byteOf n) 0

/-! ## Transactions (R171) -/

/-- The three transactions that a selector byte selects. -/
inductive Selector where
  | push
  | pull
  | peek
deriving DecidableEq, Repr

/-- The transaction that the first byte selects; any other value is ignored (R119). -/
def selectorOf (b : Byte) : Option Selector :=
  if b = 1#8 then some .push else if b = 2#8 then some .pull else if b = 3#8 then some .peek else none

/-- What a transaction into which some bytes are clocked selects: nothing where it ends before its selector byte is
complete, or where that byte selects none of the three (R119). -/
def selects (bytes : List Byte) : Option Selector := bytes.head?.bind selectorOf

/-- The status byte TAKEN of a PUSH. -/
def statusTaken : Byte := 1

/-- The status byte FULL of a PUSH. -/
def statusFull : Byte := 2

/-- The first `n` bytes that a port shifts out in a transaction in which 0 follows what it returns: 0 while the selector byte
is shifted in, then the bytes returned, and 0 after them. So it is for a PULL (R121), for a PEEK (R122), and with nothing returned
for an ignored transaction (R119) and for a PUSH that ends before its status byte (R171). -/
def shiftedOut (body : List Byte) (n : Nat) : List Byte := ((0 :: body) ++ List.replicate n 0).take n

/-- What a PUSH shifts out: 0 during the sixteen record bytes, and then the status byte (R120, R171). -/
def pushOutput (status : Byte) : List Byte := List.replicate Config.recordBytes 0 ++ [status]

/-- What a PEEK shifts out: the port state word, most significant bit first (R171). -/
def peekOutput (w : BitVec 16) : List Byte := bytes16 w.toNat

/-- The command record that the bytes after the selector byte of a PUSH deliver: the first sixteen, once there are sixteen
(R120). -/
def recordOf (bytes : List Byte) : Option CommandRecord :=
  if h : 16 ≤ bytes.length then some (Vector.ofFn fun i => bytes[i.val]'(by omega)) else none

/-! ## Command records (R172) -/

/-- The value of a field if its presence bit is set. -/
def named {α : Type} (presence bit : Nat) (v : α) : Option α := if presence.testBit bit then some v else none

/-- An index field that is checked only if its presence bit is set: the outer `none` is out of range. -/
def namedIndex (n presence bit v : Nat) : Option (Option (Fin n)) :=
  if presence.testBit bit then (indexOf n v).map some else some none

/-- The meaning of a yes-or-no byte: 0 is the first choice, any other value the second. -/
def choice (b : Byte) : Bool := b != 0#8

/-- The period that a period code names. -/
def periodOf (b : Byte) : Option Period :=
  if b = 0#8 then some .us8 else if b = 1#8 then some .us16 else if b = 2#8 then some .us32
  else if b = 3#8 then some .us64 else none

/-- The cause set in one byte of EVENT_MASK and EVENT_ACK (R171). -/
def causesOf (b : Byte) : CauseSet :=
  { fenceDone := b.getLsbD 0, fault := b.getLsbD 1, trip := b.getLsbD 2, portDown := b.getLsbD 3,
    linkDown := b.getLsbD 4 }

/-- FLOW_SET, code 1. -/
def parseFlowSet (r : CommandRecord) : Option Command :=
  let presence := be16 r[3] r[4]
  if 512 ≤ presence then none else
    match indexOf 96 r[2].toNat, namedIndex 8 presence 0 r[5].toNat, namedIndex 8 presence 7 (r[15].toNat / 16) with
    | some f, some port, some profile =>
      some (.flowSet f
        { port := port
          group := named presence 1 r[6].toNat
          urgency := named presence 2 r[7].toNat
          weight := named presence 3 r[8].toNat
          floor := named presence 4 (be16 r[9] r[10])
          ceiling := named presence 5 (be16 r[11] r[12])
          burstCap := named presence 6 (be16 r[13] r[14])
          profile := profile
          tripEnable := named presence 8 (r[15].toNat % 16 != 0) })
    | _, _, _ => none

/-- PORT_SET, code 4. -/
def parsePortSet (r : CommandRecord) : Option Command :=
  let presence := be16 r[3] r[4]
  if 512 ≤ presence then none else
    (indexOf 8 r[2].toNat).map fun e => .portSet e
      { capacity := named presence 0 (be16 r[5] r[6])
        reserve := named presence 1 (be16 r[7] r[8])
        maxGrant := named presence 2 (be16 r[9] r[10])
        minGrant := named presence 3 r[11].toNat
        lifetime := named presence 4 r[12].toNat
        urgentSlots := named presence 5 r[13].toNat
        classMask := named presence 6 r[14].toNat
        threshold := named presence 7 (r[15].toNat / 16)
        enable := named presence 8 (r[15].toNat % 16 != 0) }

/-- HOSTPORT_SET, code 6. -/
def parseHostportSet (r : CommandRecord) : Option Command :=
  let presence := r[3].toNat
  if 4 ≤ presence then none else
    (indexOf 24 r[2].toNat).map fun h => .hostportSet h
      { tagged := named presence 0 (choice r[4]), limit := named presence 1 (be16 r[5] r[6]) }

/-- The fields of a PROFILE_SET of section 0. -/
def profileWrite0 (presence : Nat) (r : CommandRecord) : ProfileWrite :=
  { kp := named presence 0 (be16 r[4] r[5])
    kpShift := named presence 1 r[6].toNat
    ki := named presence 2 (be16 r[7] r[8])
    kiShift := named presence 3 r[9].toNat
    positiveClamp := named presence 4 (be16 r[10] r[11])
    negativeClamp := named presence 5 (be16 r[12] r[13])
    startClamp := named presence 6 (be16 r[14] r[15])
    integratorClamp := none, startStep := none, startHold := none, windupStop := none }

/-- The fields of a PROFILE_SET of section 1. -/
def profileWrite1 (presence : Nat) (r : CommandRecord) : ProfileWrite :=
  { kp := none, kpShift := none, ki := none, kiShift := none, positiveClamp := none, negativeClamp := none,
    startClamp := none
    integratorClamp := named presence 0 (be24 r[4] r[5] r[6])
    startStep := named presence 1 (be16 r[7] r[8])
    startHold := named presence 2 r[9].toNat
    windupStop := named presence 3 (choice r[10]) }

/-- PROFILE_SET, code 7; in section 1 the presence bits 4 to 6 name no field. -/
def parseProfileSet (r : CommandRecord) : Option Command :=
  let presence := r[3].toNat % 128
  if r[3].getLsbD 7 then
    if 16 ≤ presence then none else
      (indexOf 8 r[2].toNat).map fun p => .profileSet p (profileWrite1 presence r)
  else (indexOf 8 r[2].toNat).map fun p => .profileSet p (profileWrite0 presence r)

/-- The scope of a RESHAPE; only the value that its kind calls for is checked (R152). -/
def parseScope (r : CommandRecord) : Option Scope :=
  if r[2] = 0#8 then
    match indexOf 96 r[4].toNat with
    | some base => if r[5].toNat ≤ 6 then some (.flowset base r[5].toNat) else none
    | none => none
  else if r[2] = 1#8 then (indexOf 8 r[4].toNat).map .group
  else if r[2] = 2#8 then (indexOf 8 r[4].toNat).map .port
  else if r[2] = 3#8 then some .all
  else none

/-- The action of a RESHAPE. -/
def parseAction (r : CommandRecord) : Option Action :=
  if r[3] = 0#8 then some .restart else if r[3] = 1#8 then some .freeze else if r[3] = 2#8 then some .thaw
  else none

/-- RESHAPE, code 9. -/
def parseReshape (r : CommandRecord) : Option Command :=
  match parseScope r, parseAction r with
  | some x, some y => some (.reshape x y)
  | _, _ => none

/-- The structure check's answer: no command stands for a value out of range. -/
def structured (c : Option Command) : Checked :=
  match c with
  | some c => .ok c
  | none => .range

/-- The two checks that the executor makes of every command record (R129, R172). -/
def parseCommand (r : CommandRecord) : Checked :=
  match r[0].toNat with
  | 1 => structured (parseFlowSet r)
  | 2 => structured ((indexOf 96 r[2].toNat).map fun f => .flowMode f (choice r[3]))
  | 3 => structured ((indexOf 96 r[2].toNat).map .flowRead)
  | 4 => structured (parsePortSet r)
  | 5 => structured ((indexOf 8 r[2].toNat).bind fun e => (indexOf 3 r[3].toNat).map fun n => .portRead e n)
  | 6 => structured (parseHostportSet r)
  | 7 => structured (parseProfileSet r)
  | 8 => structured ((periodOf r[2]).map .epochSet)
  | 9 => structured (parseReshape r)
  | 10 => .ok (.fence (choice r[2]) (choice r[3]))
  | 11 => .ok .reserveLock
  | 12 => .ok .reserveUnlock
  | 13 => structured ((indexOf 8 r[2].toNat).map .tripClear)
  | 14 => structured ((indexOf 8 r[2].toNat).map .faultRead)
  | 15 => if r[2] = 255#8 then .ok .faultClearAll else structured ((indexOf 8 r[2].toNat).map .faultClear)
  | 16 => .ok (.eventMask (causesOf r[2]))
  | 17 => .ok (.eventAck (causesOf r[2]))
  | _ => .unknown

/-! ## Response records (R173) -/

/-- The code of a status. -/
def statusCode : Status → Byte
  | .done => 1
  | .clamped => 2
  | .consentHeld => 3
  | .refusedRange => 16
  | .refusedReserve => 17
  | .refusedLocked => 18
  | .refusedBusy => 19
  | .refusedLinkdown => 20
  | .refusedTripped => 21
  | .refusedUnknown => 22

/-- The code of a performed scope, or of its absence. -/
def scopeCode : Option ScopeKind → Byte
  | some .flowset => 0
  | some .group => 1
  | some .port => 2
  | some .all => 3
  | some .none => 4
  | none => 255

/-- The code of a fault kind. -/
def faultCode : FaultKind → Byte
  | .grantExpired => 1
  | .lateDone => 2
  | .overrun => 3
  | .misroute => 4
  | .tagMissing => 5
  | .unboundReport => 6
  | .backlogClamped => 7
  | .badRecord => 8
  | .linkCheck => 9
  | .portDown => 10
  | .tallyMerged => 11

/-- The code of a flow state. -/
def stateCode : FlowState → Nat
  | .off => 0
  | .start => 1
  | .run => 2

/-- The code of a saturation. -/
def saturationCode : Saturation → Nat
  | .none => 0
  | .high => 1
  | .low => 2

/-- Bytes 4 to 31 of the response to a FLOW_READ. -/
def flowPayload (x : FlowSnapshot) : List Byte :=
  [byteOf (x.config.port.val * 32 + x.config.urgency.val * 4 + bitOf x.config.tripEnable * 2 + bitOf x.tripped),
   byteOf (x.config.group.val * 32 + x.config.profile.val * 4 + bitOf x.ctl.frozen * 2 + bitOf x.demand.flush),
   byteOf (stateCode x.ctl.state * 64 + saturationCode x.ctl.saturation * 16 + x.ctl.startCount),
   byteOf x.config.weight, byteOf x.demand.grantCount] ++
  bytes16 x.config.floor ++ bytes16 x.config.ceiling ++ bytes16 x.config.burstCap ++ bytes16 x.ctl.rate ++
  bytes24 (BitVec.ofInt 24 x.ctl.integrator).toNat ++ bytes16 x.ctl.lastTarget ++
  bytes16 (BitVec.ofInt 16 x.ctl.lastError).toNat ++ bytes16 x.demand.backlog ++
  bytes16 x.demand.outstanding ++ bytes16 x.demand.balance ++ bytes16 x.demand.delivered

/-- Bytes 4 to 31 of the response to a PORT_READ of section 0. -/
def portPayload (x : PortSnapshot) : List Byte :=
  bytes16 x.config.capacity ++ bytes16 x.config.reserve ++ bytes16 x.config.maxGrant ++
  [byteOf x.config.minGrant, byteOf x.config.lifetime, byteOf x.config.urgentSlots,
   byteOf x.config.classMask] ++ bytes16 x.floorSum ++
  [byteOf (bitOf x.condition.enable * 128 + bitOf x.condition.linkUp * 64 + x.condition.level * 16 +
    x.condition.threshold * 2 + bitOf x.condition.tripFlag)] ++ bytes16 x.budget ++ List.replicate 13 0

/-- The seven bytes of one slot in a PORT_READ of section 1 or 2. -/
def slotPayload (x : GrantSlot) : List Byte :=
  match x.grant with
  | some g =>
    [byteOf (128 + x.generation.toNat), byteOf g.flow.val, byteOf g.age] ++ bytes16 g.issued ++ bytes16 g.remaining
  | none => [byteOf x.generation.toNat, 0, 0, 0, 0, 0, 0]

/-- Bytes 4 to 31 of the response to a FAULT_READ. -/
def faultPayload (x : Option FaultRecord) (overflow : Bool) : List Byte :=
  (match x with
   | some r =>
     [1, faultCode r.key.kind, byteOf ((r.key.flow.map Fin.val).getD 255), byteOf ((r.key.port.map Fin.val).getD 255)] ++
     bytes32 r.first.toNat ++ bytes32 r.last.toNat ++ [byteOf r.count]
   | none => [0, 0, 255, 255, 0, 0, 0, 0, 0, 0, 0, 0, 0]) ++ [byteOf (bitOf overflow)] ++ List.replicate 14 0

/-- Bytes 4 to 31 of a response, all 0 where the payload is absent. -/
def payloadBytes : Payload → List Byte
  | .absent => List.replicate 28 0
  | .flow x => flowPayload x
  | .port x => portPayload x
  | .slots xs => xs.flatMap slotPayload
  | .fault r o => faultPayload r o

/-- The 32 bytes of a response. -/
def responseBytes (r : Response) : List Byte :=
  [r.tag, r.kind, statusCode r.status, scopeCode r.scope] ++ payloadBytes r.payload

/-- The empty marker that a PULL returns on an empty queue. -/
def emptyMarker : List Byte := List.replicate Config.responseBytes 0

end Sys2Proof.Machine
end

