-- ==== Sys2Proof/Machine/State.lean ====
section
/-! DEFINITION. The state of the PJ-824: every block, every message between blocks that has been sent and
not yet taken, and the queue of commands that wait to be run. -/

namespace Sys2Proof.Machine

/-- The machine state. -/
structure State where
  /-- Whether the RESET line is low (R133). -/
  resetLow : Bool
  /-- The SOLO level sampled while RESET was low; true is high (R130). -/
  solo : Bool
  timer : EpochTimer
  link : LinkInterface
  monitors : Table Monitor 8
  arbiters : Table Arbiter 8
  /-- The arbiters' part of the flow table (R10), one entry for each flow. -/
  held : Table ArbiterFlow 96
  rate : RateEngine
  cmd : Executor
  unit : FaultUnit
  /-- The commands that wait, the front first. -/
  pending : List Instr
deriving DecidableEq, Repr

/-- The reasons for which the machine stops with a fault. There is none: the manual describes no event that
stops the part. What it calls faults are records of the fault table, and they are part of `State`. -/
inductive Fault where
deriving DecidableEq, Repr

/-- The reasons for which the model gives a command no meaning. -/
inductive Refusal where
  /-- Raised by an arm of `exec` for a row not modelled yet; safe, since nothing can be proved of it. -/
  | notModelled (mnemonic : String)
deriving DecidableEq, Repr

/-- The machine after a power-on reset, with RESET risen again (R133) and no command waiting. SOLO low and
lane lock held are the model's choice (DESIGN CHOICE, log entries 4 and 5, unsafe). -/
def State.reset : State :=
  { resetLow := false, solo := false, timer := powerOnTimer, link := powerOnLink true,
    monitors := Table.const 8 powerOnMonitor, arbiters := Table.const 8 powerOnArbiter,
    held := Table.const 96 powerOnArbiterFlow, rate := powerOnRate, cmd := powerOnExecutor,
    unit := powerOnUnit, pending := [] }

end Sys2Proof.Machine
end

