-- ==== Sys2Proof/Machine/Ops.lean ====
section
/-! DEFINITION. The named operations over the state: reading and writing one record of a block, sending a message
to another block, and the operations that several steps share. -/

namespace Sys2Proof.Machine

/-- The outcome of a step. -/
abbrev Result := Host.Outcome State Fault Refusal

/-! ## Reading and writing one record -/

/-- The arbiter of a port. -/
def State.arb (s : State) (e : TargetPort) : Arbiter := Table.get s.arbiters e
/-- The Port Monitor of a port. -/
def State.mon (s : State) (e : TargetPort) : Monitor := Table.get s.monitors e
/-- What the arbiters hold for a flow. -/
def State.flow (s : State) (f : Flow) : ArbiterFlow := Table.get s.held f
/-- What the Rate Engine holds for a flow. -/
def State.rflow (s : State) (f : Flow) : RateFlow := Table.get s.rate.flows f
/-- What the executor holds for a management port. -/
def State.mgmt (s : State) (p : MPort) : MgmtPort := s.cmd.mgmt.get p

/-- The state with another Link Interface. -/
def State.withLink (s : State) (x : LinkInterface) : State := { s with link := x }
/-- The state with other Port Monitors. -/
def State.withMonitors (s : State) (x : Table Monitor 8) : State := { s with monitors := x }
/-- The state with other arbiters. -/
def State.withArbiters (s : State) (x : Table Arbiter 8) : State := { s with arbiters := x }
/-- The state with other demand and token fields. -/
def State.withHeld (s : State) (x : Table ArbiterFlow 96) : State := { s with held := x }
/-- The state with another Rate Engine. -/
def State.withRate (s : State) (x : RateEngine) : State := { s with rate := x }
/-- The state with another Command Executor. -/
def State.withCmd (s : State) (x : Executor) : State := { s with cmd := x }
/-- The state with another Fault and Event Unit. -/
def State.withUnit (s : State) (x : FaultUnit) : State := { s with unit := x }
/-- The state with another Epoch Timer. -/
def State.withTimer (s : State) (x : EpochTimer) : State := { s with timer := x }

/-- The state with another arbiter at a port. -/
def State.setArb (s : State) (e : TargetPort) (x : Arbiter) : State := s.withArbiters (Table.put s.arbiters e x)
/-- The state with another Port Monitor at a port. -/
def State.setMon (s : State) (e : TargetPort) (x : Monitor) : State := s.withMonitors (Table.put s.monitors e x)
/-- The state with another entry for a flow at the arbiters. -/
def State.setFlow (s : State) (f : Flow) (x : ArbiterFlow) : State := s.withHeld (Table.put s.held f x)
/-- The state with other demand and token fields for a flow. -/
def State.setDemand (s : State) (f : Flow) (x : Demand) : State := s.setFlow f { s.flow f with demand := x }
/-- The state with another entry for a flow at the Rate Engine. -/
def State.setRflow (s : State) (f : Flow) (x : RateFlow) : State :=
  s.withRate { s.rate with flows := Table.put s.rate.flows f x }
/-- The state with another record for a management port. -/
def State.setMgmt (s : State) (p : MPort) (x : MgmtPort) : State :=
  s.withCmd { s.cmd with mgmt := s.cmd.mgmt.put p x }

/-! ## Which events the part takes -/

/-- A step of the part. While RESET is low every block holds its power-on values and takes no event (R133). -/
def State.live (s : State) (step : State → State) : Result := .next (if s.resetLow then s else step s)

/-- Whether a management port is fitted: port B is absent under SOLO high (R130). -/
def State.fitted (s : State) (p : MPort) : Bool := !(s.solo && p == .b)

/-! ## Messages to the Fault and Event Unit -/

/-- The fault reports that a block has sent and the unit has not taken, oldest first. The executor sends none (R135). -/
def State.reportsOf (s : State) : Source → List FaultReport
  | .link => s.link.reports
  | .arbiter e => (s.arb e).reports
  | .monitor e => (s.mon e).reports
  | .rate => s.rate.reports
  | .executor => []

/-- The state with other fault reports on their way from a block. -/
def State.setReports (s : State) (src : Source) (x : List FaultReport) : State :=
  match src with
  | .link => s.withLink { s.link with reports := x }
  | .arbiter e => s.setArb e { s.arb e with reports := x }
  | .monitor e => s.setMon e { s.mon e with reports := x }
  | .rate => s.withRate { s.rate with reports := x }
  | .executor => s

/-- A block sends the unit a fault report (R162, R163). -/
def State.report (s : State) (src : Source) (r : FaultReport) : State :=
  s.setReports src (s.reportsOf src ++ [r])

/-- The postings that a block has sent and the unit has not taken, oldest first. Arbiters and the Rate Engine post
nothing (R165). -/
def State.postsOf (s : State) : Source → List Posting
  | .link => s.link.posts
  | .monitor e => (s.mon e).posts
  | .executor => s.cmd.posts
  | .arbiter _ => []
  | .rate => []

/-- The state with other postings on their way from a block. -/
def State.setPosts (s : State) (src : Source) (x : List Posting) : State :=
  match src with
  | .link => s.withLink { s.link with posts := x }
  | .monitor e => s.setMon e { s.mon e with posts := x }
  | .executor => s.withCmd { s.cmd with posts := x }
  | .arbiter _ => s
  | .rate => s

/-- A block sends the unit a posting (R165). -/
def State.post (s : State) (src : Source) (x : Posting) : State := s.setPosts src (s.postsOf src ++ [x])

/-! ## Grants -/

/-- The pending figure of a flow: backlog less outstanding cells, never below 0 (R15). -/
def Demand.pending (d : Demand) : Nat := d.backlog - d.outstanding

/-- Whether a flow that an arbiter holds is tripped: its trip enable is yes and the port's trip flag is set (R16). -/
def State.trippedAt (s : State) (e : TargetPort) (f : Flow) : Bool :=
  (s.flow f).view.tripEnable && (s.mon e).tripFlag

/-- Whether a flow is OFF, as the Rate Engine holds it (R17). -/
def State.isOff (s : State) (f : Flow) : Bool := (s.rflow f).ctl.state == .off

/-- The busy slots of an arbiter with their grants, in slot order. -/
def Arbiter.busy (a : Arbiter) : List (Slot × Grant) :=
  (List.finRange 8).filterMap fun n => (Table.get a.slots n).grant.map fun g => (n, g)

/-- The tag of the grant in a slot (R69). -/
def Arbiter.tagAt (a : Arbiter) (e : TargetPort) (n : Slot) : GrantTag :=
  { port := e, slot := n, generation := (Table.get a.slots n).generation }

/-- The cells not yet reported of those among some grants that belong to a flow. -/
def remainingOf (gs : List (Slot × Grant)) (f : Flow) : Nat :=
  ((gs.filter fun x => x.2.flow == f).map fun x => x.2.remaining).sum

/-- The number of those among some grants that belong to a flow. -/
def countOf (gs : List (Slot × Grant)) (f : Flow) : Nat := (gs.filter fun x => x.2.flow == f).length

/-- The demand fields of a flow after some grants have retired: outstanding cells fall by what remained,
grant count by the number of the flow's grants among them (R12, R82). -/
def Demand.less (d : Demand) (gs : List (Slot × Grant)) (f : Flow) : Demand :=
  { d with outstanding := d.outstanding - remainingOf gs f, grantCount := d.grantCount - countOf gs f }

/-- Retirement of some grants of arbiter `e` in one event (R82, R83): the slots become free and keep their
generations, the flows' outstanding cells and grant counts fall, and a retirement report is sent for each. That the
reports of grants retired together stand in slot order is the model's choice (log entry 26): R84 says it of the CANCEL
records only. -/
def State.retire (s : State) (e : TargetPort) (gone : List (Slot × Grant)) : State :=
  let a := s.arb e
  (s.setArb e
    { a with
      slots := Table.tab fun n =>
        if gone.any fun x => x.1 == n then { Table.get a.slots n with grant := none } else Table.get a.slots n
      toExecutor := a.toExecutor ++ gone.map fun x => ExecutorMsg.retired (a.tagAt e x.1) }).withHeld
    (Table.tab fun f => { s.flow f with demand := (s.flow f).demand.less gone f })

/-- The CANCEL record for a grant in a slot of arbiter `e`, with what remained of it (R169). -/
def State.cancelOf (s : State) (e : TargetPort) (x : Slot × Grant) : OutRecord :=
  .cancel ((s.arb e).tagAt e x.1) x.2.flow x.2.remaining

/-- Arbiter `e` hands the Link Interface some records; they are discarded while the link is DOWN (R170). -/
def State.hand (s : State) (e : TargetPort) (rs : List OutRecord) : State :=
  if s.link.up then
    s.withLink { s.link with waiting := Table.put s.link.waiting e (Table.get s.link.waiting e ++ rs) }
  else s

/-! ## The Command Executor -/

/-- The state with another command in execution. -/
def State.withRunning (s : State) (j : Option Running) : State := s.withCmd { s.cmd with running := j }

/-- A response to a command from port `p` (R127): it fills the promised slot, and it is discarded when a port clear
has released the promise (R132). -/
def State.respond (s : State) (p : MPort) (r : Response) : State :=
  if (s.mgmt p).promised then
    s.setMgmt p { s.mgmt p with responses := (s.mgmt p).responses ++ [r], promised := false }
  else s

/-- The response that ends a command. -/
def Running.response (j : Running) : Response :=
  { tag := j.tag, kind := j.kind, status := j.status, scope := j.scope, payload := j.payload }

/-- The end of the command in execution (R127). -/
def State.endCommand (s : State) (j : Running) : State := (s.withRunning none).respond j.port j.response

/-- A command that the executor has begun: it ends in the same step if it sends no request (R126). -/
def State.launch (s : State) (j : Running) : State :=
  if j.todo = [] then s.endCommand j else s.withRunning (some j)

/-- A fence whose drain set is empty completes: DONE fills the promised slot, FENCE_DONE is posted if notify is yes, and the
fence is removed (R159). -/
def State.completeFence (s : State) (p : MPort) (x : Fence) : State :=
  let s := s.setMgmt p { s.mgmt p with fence := none }
  let s := s.respond p { tag := x.tag, kind := x.kind, status := .done, scope := none, payload := .absent }
  if x.notify then s.post .executor (.toPort p .fenceDone) else s

/-- Retired tags removed from the drain set of a port's waiting fence, which completes if that empties it (R83, R159). -/
def State.drainPort (s : State) (tags : List GrantTag) (p : MPort) : State :=
  match (s.mgmt p).fence with
  | some x =>
    if x.drain.any (· ∈ tags) then
      let d := x.drain.filter (· ∉ tags)
      if d = [] then s.completeFence p x else s.setMgmt p { s.mgmt p with fence := some { x with drain := d } }
    else s
  | none => s

/-- Retired tags removed from the drain set that a FENCE in execution is capturing (R158). -/
def State.drainRunning (s : State) (tags : List GrantTag) : State :=
  s.withRunning (s.cmd.running.map fun j => { j with drain := j.drain.filter (· ∉ tags) })

/-- Retired tags removed from every drain set that holds them. -/
def State.drainSets (s : State) (tags : List GrantTag) : State :=
  ((s.drainRunning tags).drainPort tags .a).drainPort tags .b

/-- The executor writes configuration into its own records, in one step (R138, R143). -/
def State.commit (s : State) : Commit → State
  | .flow f x => s.withCmd { s.cmd with flows := Table.put s.cmd.flows f x }
  | .port e x => s.withCmd { s.cmd with ports := Table.put s.cmd.ports e x }

/-- The write of a command whose guarding request has been accepted, if it has one. -/
def State.commitOf (s : State) (j : Running) : State :=
  match j.commit with
  | some c => s.commit c
  | none => s

/-- The request that a block has before it: the first of the command in execution. What is done with it is given
by `take`, which receives the command with the request already removed. -/
def State.request (s : State) (take : Running → Request → Option State) : Option State :=
  match s.cmd.running with
  | some j =>
    match j.todo with
    | q :: rest => take { j with todo := rest } q
    | [] => none
  | none => none

/-- The state after a block takes the request before it; a block with no such request changes nothing. -/
def State.onRequest (s : State) (take : Running → Request → Option State) : State := (s.request take).getD s

/-- A refusal decided at another block: the command ends with a status, sends nothing more and writes nothing (R126). -/
def Running.refuse (j : Running) (st : Status) : Running := { j with todo := [], commit := none, status := st }

end Sys2Proof.Machine
end

