-- ==== Sys2Proof/Machine/Arbiter.lean ====
section
/-! DEFINITION. The Grant Arbiters (spec 04_grant_arbitration.md; spec 02, sections 2.2 and 2.7; spec 05, section 5.3). -/

namespace Sys2Proof.Machine

/-! ## The epoch expiry (R27) -/

/-- The slots of an arbiter with every busy slot's age raised by 1 (R79). -/
def Arbiter.aged (a : Arbiter) : Arbiter :=
  { a with
    slots := Table.tab fun n =>
      { generation := (Table.get a.slots n).generation
        grant := (Table.get a.slots n).grant.map fun g => { g with age := g.age + 1 } } }

/-- The grants whose age is at or above the port's grant lifetime, in slot order (R79). -/
def Arbiter.expired (a : Arbiter) : List (Slot × Grant) := a.busy.filter fun x => a.view.lifetime ≤ x.2.age

/-- The fault reported for an expired grant (R79). -/
def expiredFault (e : TargetPort) (x : Slot × Grant) : FaultReport :=
  { kind := .grantExpired, flow := some x.2.flow, port := some e }

/-- Aging and expiry, the first step of an epoch expiry (R28, R79): the grants that reach the lifetime are retired, a
CANCEL is handed on for each, GRANT_EXPIRED is reported for each, and their tags leave every drain set. A fence that
this empties completes in the same event (log entry 24). -/
def State.age (s : State) (e : TargetPort) : State :=
  let s := s.setArb e (s.arb e).aged
  let gone := (s.arb e).expired
  let s' := (s.retire e gone).hand e (gone.map (s.cancelOf e))
  (s'.setReports (.arbiter e) (s'.reportsOf (.arbiter e) ++ gone.map (expiredFault e))).drainSets
    (gone.map fun x => (s.arb e).tagAt e x.1)

/-- The port grant budget and the granted count renewed, the second step of an epoch expiry (R29). -/
def State.renewBudget (s : State) (e : TargetPort) : State :=
  s.setArb e { s.arb e with budget := (s.arb e).view.capacity, granted := 0 }

/-- Whether arbiter `e` holds a flow. -/
def State.holds (s : State) (e : TargetPort) (f : Flow) : Bool := (s.flow f).holder == some e

/-- The entry of a tally for a flow (R30). -/
def tallyEntry (f : Flow) (d : Demand) : TallyEntry :=
  { flow := f, delivered := d.delivered, demanding := 0 < d.pending, grants := d.grantCount }

/-- The tally that arbiter `e` builds: one entry for each flow bound to the port, in flow-index order (R30). -/
def State.tallyOf (s : State) (e : TargetPort) : Tally :=
  { port := e
    entries := ((List.finRange 96).filter (s.holds e)).map fun f => tallyEntry f (s.flow f).demand }

/-- The demand fields of a flow whose delivered count a tally has taken (R30). -/
def Demand.counted (d : Demand) : Demand := { d with delivered := 0 }

/-- The tally sent, and the delivered counts of the flows the arbiter holds set to 0: the third and fourth steps of an
epoch expiry (R27, R30). -/
def State.sendTally (s : State) (e : TargetPort) : State :=
  (s.setArb e { s.arb e with tallies := (s.arb e).tallies ++ [s.tallyOf e] }).withHeld
    (Table.tab fun f =>
      if s.holds e f then { s.flow f with demand := (s.flow f).demand.counted } else s.flow f)

/-- ARBITER_EPOCH_EXPIRY (R27): arbiter `e` takes a delivered expiry whole, whatever the state of its port. -/
def execArbiterEpochExpiry (e : TargetPort) (s : State) : Result :=
  s.live fun s =>
    if (s.arb e).expiries = 0 then s
    else
      let s := s.setArb e { s.arb e with expiries := (s.arb e).expiries - 1 }
      ((s.age e).renewBudget e).sendTally e

/-! ## Refill sets and backlog reports -/

/-- The refill that a set carries for a flow. -/
def refillFor (x : RefillSet) (f : Flow) : Option Nat := (x.find? fun y => y.1 == f).map Prod.snd

/-- A token balance raised by some cells, up to a burst cap (R13). -/
def raised (balance cells cap : Nat) : Nat := min (balance + cells) cap

/-- The demand fields of a flow whose balance a refill or refund raises (R13). -/
def Demand.refilled (d : Demand) (cells cap : Nat) : Demand := { d with balance := raised d.balance cells cap }

/-- Whether a refill to a flow is discarded: the flow is OFF or tripped, or the arbiter no longer holds it (R13, R41). -/
def State.refillLost (s : State) (e : TargetPort) (f : Flow) : Bool :=
  !s.holds e f || s.isOff f || s.trippedAt e f

/-- A refill set applied: each balance becomes the lesser of the balance plus the refill and the burst cap (R41). -/
def State.refill (s : State) (e : TargetPort) (x : RefillSet) : State :=
  s.withHeld (Table.tab fun f =>
    match refillFor x f with
    | some r =>
      if s.refillLost e f then s.flow f
      else { s.flow f with demand := (s.flow f).demand.refilled r (s.flow f).view.burstCap }
    | none => s.flow f)

/-- REFILL_SET (R41): a disabled port discards the whole set. -/
def execRefillSet (e : TargetPort) (s : State) : Result :=
  s.live fun s =>
    match (s.arb e).refills with
    | x :: rest =>
      let s := s.setArb e { s.arb e with refills := rest }
      if (s.mon e).enable then s.refill e x else s
    | [] => s

/-- A passed backlog report at arbiter `e` (R94, R95, R11). -/
def State.applyBacklog (s : State) (e : TargetPort) (f : Flow) (cells : Nat) (flush : Bool) : State :=
  if s.isOff f then s.report (.arbiter e) { kind := .unboundReport, flow := some f, port := some e }
  else if s.holds e f then s.setDemand f { (s.flow f).demand with backlog := cells, flush := flush }
  else s.report (.arbiter e) { kind := .misroute, flow := some f, port := some e }

/-- The state with the oldest passed record of an arbiter taken off its inbox. -/
def State.popArbiter (s : State) (e : TargetPort) (rest : List ArbiterMsg) : State :=
  s.setArb e { s.arb e with inbox := rest }

/-- BACKLOG_APPLY (R94). -/
def execBacklogApply (e : TargetPort) (s : State) : Result :=
  s.live fun s =>
    match (s.arb e).inbox with
    | .backlog f cells flush :: rest => (s.popArbiter e rest).applyBacklog e f cells flush
    | _ => s

/-! ## Completions (R98 to R103) -/

/-- The grant that a DONE record matches: its slot is busy under the tag's generation (R98). -/
def Arbiter.matching (a : Arbiter) (t : GrantTag) : Option Grant :=
  if (Table.get a.slots t.slot).generation = t.generation then (Table.get a.slots t.slot).grant else none

/-- The credit that every matched completion gives (R14, R98). -/
def Demand.credit (d : Demand) (k : Nat) : Demand :=
  { d with delivered := min (d.delivered + k) Config.deliveredMax }

/-- A flow credited with the cells of a matched completion. -/
def State.credit (s : State) (f : Flow) (k : Nat) : State := s.setDemand f ((s.flow f).demand.credit k)

/-- An arbiter whose grant `g` in slot `n` has moved `k` cells and stays outstanding (R99). -/
def Arbiter.progress (a : Arbiter) (n : Slot) (g : Grant) (k : Nat) : Arbiter :=
  { a with
    slots := Table.put a.slots n
      { generation := (Table.get a.slots n).generation
        grant := some { g with remaining := g.remaining - k, age := 0 } } }

/-- The demand fields of a flow of whose outstanding cells `k` have moved (R12). -/
def Demand.progressed (d : Demand) (k : Nat) : Demand := { d with outstanding := d.outstanding - k }

/-- A completion below the remaining count without end mark: the grant stays, its age becomes 0, and the remaining count
and the flow's outstanding cells fall by `k` (R99). -/
def State.progress (s : State) (e : TargetPort) (n : Slot) (g : Grant) (k : Nat) : State :=
  (s.setArb e ((s.arb e).progress n g k)).setDemand g.flow ((s.flow g.flow).demand.progressed k)

/-- A refund, discarded when the flow is OFF (R13, R101). -/
def State.refund (s : State) (f : Flow) (cells : Nat) : State :=
  if s.isOff f then s
  else s.setDemand f ((s.flow f).demand.refilled cells (s.flow f).view.burstCap)

/-- A matched completion of `k` cells, in its four cases (R98 to R102). -/
def State.complete (s : State) (e : TargetPort) (n : Slot) (g : Grant) (k : Nat) (endMark : Bool) : State :=
  let s := s.credit g.flow k
  if g.remaining < k then
    (s.retire e [(n, g)]).report (.arbiter e) { kind := .overrun, flow := some g.flow, port := some e }
  else if k = g.remaining then s.retire e [(n, g)]
  else if endMark then (s.retire e [(n, g)]).refund g.flow (g.remaining - k)
  else s.progress e n g k

/-- DONE_MATCH (R98, R103): an unmatched record is late and credits nothing. -/
def execDoneMatch (e : TargetPort) (s : State) : Result :=
  s.live fun s =>
    match (s.arb e).inbox with
    | .done t k endMark :: rest =>
      let s := s.popArbiter e rest
      match (s.arb e).matching t with
      | some g => s.complete e t.slot g k endMark
      | none => s.report (.arbiter e) { kind := .lateDone, flow := none, port := some e }
    | _ => s

/-! ## Shutdown (R84) -/

/-- The demand fields of a flow at a shutdown; the balance and the delivered count keep their values (R84). -/
def Demand.shutDown (d : Demand) : Demand :=
  { d with backlog := 0, flush := false, outstanding := 0, grantCount := 0 }

/-- The backlogs and flush marks of the port's flows cleared, with nothing outstanding (R84). -/
def State.clearBacklogs (s : State) (e : TargetPort) : State :=
  s.withHeld (Table.tab fun f =>
    if s.holds e f then { s.flow f with demand := (s.flow f).demand.shutDown } else s.flow f)

/-- Every outstanding grant cancelled, with a CANCEL record for each in slot order where the request calls for them (R84). -/
def State.cancelAll (s : State) (e : TargetPort) (cancels : Bool) : State :=
  let gone := (s.arb e).busy
  ((s.retire e gone).hand e (if cancels then gone.map (s.cancelOf e) else [])).clearBacklogs e

/-- SHUTDOWN_REQUEST (R84). -/
def execShutdownRequest (e : TargetPort) (s : State) : Result :=
  s.live fun s =>
    match (s.arb e).shutdowns with
    | cancels :: rest => (s.setArb e { s.arb e with shutdowns := rest }).cancelAll e cancels
    | [] => s

/-! ## Grants (R70 to R77) -/

/-- The grant size of a flow: the least of its pending figure, its token balance, the maximum grant and the budget (R71). -/
def State.grantSize (s : State) (e : TargetPort) (f : Flow) : Nat :=
  min (min (s.flow f).demand.pending (s.flow f).demand.balance) (min (s.arb e).view.maxGrant (s.arb e).budget)

/-- The size test: the minimum grant is met, or the flush condition (R71). -/
def State.sizePasses (s : State) (e : TargetPort) (f : Flow) : Bool :=
  let g := s.grantSize e f
  (s.arb e).view.minGrant ≤ g || ((s.flow f).demand.flush && g == (s.flow f).demand.pending && 1 ≤ g)

/-- Whether arbiter `e` finds a flow eligible (R70). -/
def State.eligible (s : State) (e : TargetPort) (f : Flow) : Bool :=
  s.holds e f && (s.mon e).enable && (s.mon e).linkUp && !s.isOff f && !s.trippedAt e f &&
  decide ((s.flow f).view.urgency.val ≤ (s.arb e).view.classMask) &&
  decide (0 < (s.flow f).demand.pending) && decide (0 < (s.flow f).demand.balance) && s.sizePasses e f

/-- The number of free slots. -/
def Arbiter.freeSlots (a : Arbiter) : Nat :=
  ((List.finRange 8).filter fun n => (Table.get a.slots n).grant.isNone).length

/-- Whether a free slot is usable for a class: class 0 may take any, another class only while more are free than the urgent
slot count (R72). -/
def Arbiter.slotUsable (a : Arbiter) (c : Urgency) : Bool :=
  if c = 0 then 0 < a.freeSlots else a.view.urgentSlots < a.freeSlots

/-- A candidate is an eligible flow for which a usable slot exists (R72). -/
def State.candidate (s : State) (e : TargetPort) (f : Flow) : Bool :=
  s.eligible e f && (s.arb e).slotUsable (s.flow f).view.urgency

/-- The flows in the order in which a search that starts after flow `p` takes them (R74). -/
def rotationFrom (p : Flow) : List Flow :=
  (List.finRange 96).map fun k => ⟨(p.val + 1 + k.val) % 96, Nat.mod_lt _ (by omega)⟩

/-- The flow of a class that the rotation reaches first among its candidates (R74). -/
def State.firstOfClass (s : State) (e : TargetPort) (c : Urgency) : Option Flow :=
  (rotationFrom (Table.get (s.arb e).rotation c)).find? fun f =>
    s.candidate e f && (s.flow f).view.urgency == c

/-- The flow that is granted next: from the lowest class number that any candidate has (R73). -/
def State.chosenFlow (s : State) (e : TargetPort) : Option Flow :=
  (List.finRange 8).findSome? (s.firstOfClass e)

/-- The lowest-numbered free slot (R74). -/
def Arbiter.lowestFree (a : Arbiter) : Option Slot :=
  (List.finRange 8).find? fun n => (Table.get a.slots n).grant.isNone

/-- The demand fields of a flow after a grant of `g` cells (R12, R13, R77). -/
def Demand.granted (d : Demand) (g : Nat) : Demand :=
  { d with balance := d.balance - g, outstanding := d.outstanding + g, grantCount := d.grantCount + 1 }

/-- An arbiter after a grant of `g` cells to a flow of class `c` in a slot (R77). -/
def Arbiter.issue (a : Arbiter) (f : Flow) (c : Urgency) (n : Slot) (g : Nat) : Arbiter :=
  { a with
    slots := Table.put a.slots n
      { generation := (Table.get a.slots n).generation + 1
        grant := some { flow := f, issued := g, remaining := g, age := 0 } }
    rotation := Table.put a.rotation c f
    budget := a.budget - g
    granted := a.granted + g }

/-- The issue of a grant of `g` cells to flow `f` into slot `n`, with its GRANT record handed to the Link Interface (R77). -/
def State.issue (s : State) (e : TargetPort) (f : Flow) (n : Slot) (g : Nat) : State :=
  let s' := (s.setArb e ((s.arb e).issue f (s.flow f).view.urgency n g)).setDemand f ((s.flow f).demand.granted g)
  s'.hand e [.grant ((s'.arb e).tagAt e n) f g]

/-- GRANT_ISSUE (R76, R77): one grant, whenever a candidate exists. -/
def execGrantIssue (e : TargetPort) (s : State) : Result :=
  s.live fun s =>
    match s.chosenFlow e, (s.arb e).lowestFree with
    | some f, some n => s.issue e f n (s.grantSize e f)
    | _, _ => s

/-! ## Requests of the Command Executor -/

/-- RELEASE_REQUEST (R5, R137): refused while the flow has grants outstanding; otherwise the old arbiter gives up the flow
and the executor writes the flow's configuration. -/
def execReleaseRequest (s : State) : Result :=
  s.live fun s => s.onRequest fun j q =>
    match q with
    | .release f _ =>
      if 0 < (s.flow f).demand.grantCount then some (s.withRunning (some (j.refuse .refusedBusy)))
      else
        some (((s.setFlow f { s.flow f with holder := none }).commitOf j).withRunning
          (some { j with commit := none }))
    | _ => none

/-- FLOW_TAKE_REQUEST (R5, R138): the new arbiter takes the flow with all its demand and token fields at zero. -/
def execFlowTakeRequest (s : State) : Result :=
  s.live fun s => s.onRequest fun j q =>
    match q with
    | .flowTake f e v =>
      some ((s.setFlow f { holder := some e, view := v, demand := zeroDemand }).withRunning (some j))
    | _ => none

/-- A flow at an arbiter that takes new configuration: a balance above the new burst cap is lowered to it (R13, R138). -/
def ArbiterFlow.reconfigure (x : ArbiterFlow) (v : ArbiterView) : ArbiterFlow :=
  { x with view := v, demand := { x.demand with balance := min x.demand.balance v.burstCap } }

/-- FLOW_CONFIG_REQUEST (R13, R138). -/
def execFlowConfigRequest (s : State) : Result :=
  s.live fun s => s.onRequest fun j q =>
    match q with
    | .flowConfig f v =>
      some ((s.setFlow f ((s.flow f).reconfigure v)).withRunning (some j))
    | _ => none

/-- CLEARING_REQUEST (R20): balance, backlog and flush mark become 0 and clear. -/
def execClearingRequest (s : State) : Result :=
  s.live fun s => s.onRequest fun j q =>
    match q with
    | .clearing f =>
      some ((s.setDemand f { (s.flow f).demand with balance := 0, backlog := 0, flush := false }).withRunning (some j))
    | _ => none

/-- An arbiter that takes new port fields: a changed capacity lowers the budget to the capacity less the cells granted since
the last close, and to 0 where that is negative; a budget already below stays (R29, R143). -/
def Arbiter.reconfigure (a : Arbiter) (v : PortView) : Arbiter :=
  { a with
    view := v
    budget := if v.capacity = a.view.capacity then a.budget else min a.budget (v.capacity - a.granted) }

/-- PORT_REQUEST (R143). -/
def execPortRequest (s : State) : Result :=
  s.live fun s => s.onRequest fun j q =>
    match q with
    | .port e v => some ((s.setArb e ((s.arb e).reconfigure v)).withRunning (some j))
    | _ => none

/-- ARBITER_READ (R158): the arbiter answers the tags of its busy slots, behind the reports it has already sent. -/
def execArbiterRead (s : State) : Result :=
  s.live fun s => s.onRequest fun j q =>
    match q with
    | .fenceRead e =>
      let a := s.arb e
      some ((s.setArb e
        { a with toExecutor := a.toExecutor ++ [.answer (a.busy.map fun x => a.tagAt e x.1)] }).withRunning
          (some { j with todo := .fenceAnswer e :: j.todo }))
    | _ => none

end Sys2Proof.Machine
end

