-- ==== Sys2Proof/Machine/Executor.lean ====
section
/-! DEFINITION. The management ports, the queues of the Command Executor, and the taking and ending of commands
(spec 07_management_ports_and_the_command_executor.md). What each command does when it is taken stands here too, as
one function per command kind (spec 08 and 09). -/

namespace Sys2Proof.Machine

/-! ## Transactions (R119 to R122) -/

/-- A port after a whole transaction that is no PULL, with the bytes that it shifted out. A new transaction ends the one
before, so no PULL is in progress. -/
def MgmtPort.ends (m : MgmtPort) (shifted : List Byte) : MgmtPort := { m with pulling := none, miso := shifted }

/-- The queues after a PUSH of a command record, and its status byte (R120). -/
def MgmtPort.joined (m : MgmtPort) (r : CommandRecord) : MgmtPort × Byte :=
  if m.commands.length < Config.queueDepth then ({ m with commands := m.commands ++ [r] }, statusTaken)
  else (m, statusFull)

/-- Port `p` at the end of a PUSH with this status byte, in which `n` bytes were clocked: 0 for the selector byte and the
record, then the status byte, and then free bytes, since the manual does not say what the port shifts out after it (R120, R171;
log entry 29). -/
def MgmtPort.answered (m : MgmtPort) (p : MPort) (status : Byte) (n : Nat) : MgmtPort :=
  let stated := 0 :: pushOutput status
  let beyond := n - stated.length
  { m.ends ((stated ++ (List.range beyond).map fun k => Config.afterStatus p (m.drawn + k)).take n) with
    drawn := m.drawn + beyond }

/-- Port `p` after a PUSH into which these bytes were clocked, the selector byte first. With fewer than sixteen record bytes it
is discarded without a status, and the status byte shows only if its byte time is clocked (R120). -/
def MgmtPort.pushed (m : MgmtPort) (p : MPort) (bytes : List Byte) : MgmtPort :=
  match recordOf bytes.tail with
  | some r => (m.joined r).1.answered p (m.joined r).2 bytes.length
  | none => m.ends (shiftedOut [] bytes.length)

/-- The port state word that a PEEK returns at a port that is fitted; an absent port drives no output (R122, R130, R171). -/
def State.peekWord (s : State) (p : MPort) : Option (BitVec 16) :=
  let x := s.unit.pending.get p
  if s.fitted p then
    some (BitVec.ofNat 16
      ((Config.queueDepth - (s.mgmt p).commands.length) * 2048 + (s.mgmt p).responses.length * 64 +
        bitOf x.linkDown * 32 + bitOf x.portDown * 16 + bitOf x.trip * 8 + bitOf x.fault * 4 + bitOf x.fenceDone * 2))
  else none

/-- A whole transaction, by what its first byte selects (R119). A PEEK and an ignored transaction change nothing but what the
port shifts out, and a PULL is the event of its own rows. -/
def State.transact (s : State) (p : MPort) (bytes : List Byte) : State :=
  match selects bytes with
  | some .push => s.setMgmt p ((s.mgmt p).pushed p bytes)
  | some .peek => s.setMgmt p ((s.mgmt p).ends (shiftedOut (((s.peekWord p).map peekOutput).getD []) bytes.length))
  | some .pull => s
  | none => s.setMgmt p ((s.mgmt p).ends (shiftedOut [] bytes.length))

/-- PUSH (R119, R120, R130). A port that is not fitted takes no transaction, and its output is not driven. -/
def execPush (p : MPort) (bytes : List Byte) (s : State) : Result :=
  s.live fun s => if s.fitted p then s.transact p bytes else s

/-- The PULL that a port begins on the selector byte: it returns the head response, or the empty marker (R121). -/
def MgmtPort.selectPull (m : MgmtPort) : PullTransfer := { response := m.responses.head?, standing := true }

/-- PULL_SELECTOR_BYTE (R121, R130). -/
def execPullSelectorByte (p : MPort) (s : State) : Result :=
  s.live fun s =>
    if s.fitted p then s.setMgmt p { s.mgmt p with pulling := some (s.mgmt p).selectPull } else s

/-- The record that a PULL shifts out (R121). -/
def PullTransfer.output (x : PullTransfer) : List Byte :=
  match x.response with
  | some r => responseBytes r
  | none => emptyMarker

/-- The responses after a PULL: a PULL that shifted out all thirty-two bytes removes the response it returned, if that is
still the head of the queue (R121). -/
def MgmtPort.afterPull (m : MgmtPort) (x : PullTransfer) (clocked : Nat) : List Response :=
  if Config.responseBytes ≤ clocked ∧ x.standing = true ∧ x.response.isSome then m.responses.tail else m.responses

/-- A management port at the end of a PULL. A PULL whose selector byte was not a step of its own fixes its record here. -/
def MgmtPort.pulled (m : MgmtPort) (clocked : Nat) : MgmtPort :=
  let x := m.pulling.getD m.selectPull
  { m with responses := m.afterPull x clocked, pulling := none, miso := shiftedOut x.output (clocked + 1) }

/-- PULL (R121, R130). -/
def execPull (p : MPort) (clocked : Nat) (s : State) : Result :=
  s.live fun s => if s.fitted p then s.setMgmt p ((s.mgmt p).pulled clocked) else s

/-! ## Port clear (R131) -/

/-- The queues of a port after its clear. A PULL in progress keeps the copy it returns and removes nothing (R121). -/
def MgmtPort.cleared (m : MgmtPort) : MgmtPort :=
  { m with
    commands := [], responses := [], promised := false, fence := none
    pulling := m.pulling.map fun x => { x with standing := false } }

/-- Whether a posting goes to one port alone. -/
def Posting.isTo (x : Posting) (p : MPort) : Bool :=
  match x with
  | .toPort q _ => q == p
  | .toBoth _ => false

/-- A port clear (R131). The clear request that the executor sends the unit reaches it behind the executor's own earlier
postings, so a FENCE_DONE still on its way to the port is emptied with the rest (R132, R167). -/
def State.clearPort (s : State) (p : MPort) : State :=
  let s := (s.setMgmt p (s.mgmt p).cleared).setPosts .executor (s.cmd.posts.filter fun x => !x.isTo p)
  let s := s.withCmd { s.cmd with consent := s.cmd.consent.put p false }
  s.withUnit { s.unit with pending := s.unit.pending.put p noCauses, mask := s.unit.mask.put p allCauses }

/-- PORT_CLEAR (R131, R130). -/
def execPortClear (p : MPort) (s : State) : Result :=
  s.live fun s => if s.fitted p then s.clearPort p else s

/-! ## Fences (R83, R159) -/

/-- The state with the oldest message of an arbiter to the executor taken. -/
def State.popExecutor (s : State) (e : TargetPort) (rest : List ExecutorMsg) : State :=
  s.setArb e { s.arb e with toExecutor := rest }

/-- RETIREMENT_REPORT (R83, R158, R159). -/
def execRetirementReport (e : TargetPort) (s : State) : Result :=
  s.live fun s =>
    match (s.arb e).toExecutor with
    | .retired t :: rest => (s.popExecutor e rest).drainSets [t]
    | _ => s

/-- A FENCE whose capture has ended: it completes at once if its drain set is empty, and otherwise it becomes the waiting
fence of its port; a clear taken meanwhile has released its promise, and it is dropped (R132, R158). -/
def State.endCapture (s : State) (j : Running) : State :=
  let s := s.withRunning none
  let x : Fence := { tag := j.tag, kind := j.kind, notify := j.notify, drain := j.drain }
  if (s.mgmt j.port).promised then
    if j.drain = [] then s.completeFence j.port x else s.setMgmt j.port { s.mgmt j.port with fence := some x }
  else s

/-- The answer of an arbiter to a fence read, taken by the executor (R158). -/
def State.takeAnswer (s : State) (j : Running) (q : Request) : Option State :=
  match q with
  | .fenceAnswer e =>
    match (s.arb e).toExecutor with
    | .answer tags :: rest =>
      let j := { j with drain := j.drain ++ tags }
      let s := s.popExecutor e rest
      some (if j.todo = [] then s.endCapture j else s.withRunning (some j))
    | _ => none
  | _ => none

/-! ## What each command does when it is taken (R126) -/

/-- The command in execution as it is taken, before it has sent anything. -/
def fresh (p : MPort) (r : CommandRecord) : Running :=
  { port := p, tag := r[1], kind := r[0], todo := [], commit := none, status := .done, scope := none,
    payload := .absent, notify := false, drain := [] }

/-- The configuration that a FLOW_SET results in before the ceiling is raised to the floor (R136, R137). -/
def FlowWrite.onto (w : FlowWrite) (c : FlowConfig) : FlowConfig :=
  { port := w.port.getD c.port
    group := (w.group.map clampFin8).getD c.group
    urgency := (w.urgency.map clampFin8).getD c.urgency
    weight := (w.weight.map clampWeight).getD c.weight
    floor := (w.floor.map clampCells).getD c.floor
    ceiling := (w.ceiling.map clampCells).getD c.ceiling
    burstCap := (w.burstCap.map clampBurst).getD c.burstCap
    profile := w.profile.getD c.profile
    tripEnable := w.tripEnable.getD c.tripEnable }

/-- The ceiling raised to the floor where the floor is above it (R137). -/
def FlowConfig.raiseCeiling (c : FlowConfig) : FlowConfig := { c with ceiling := max c.floor c.ceiling }

/-- Whether a FLOW_SET wrote a value other than the one it carried (R136, R137). -/
def FlowWrite.clamps (w : FlowWrite) (c : FlowConfig) : Bool :=
  moved (fun v => (clampFin8 v).val) w.group || moved (fun v => (clampFin8 v).val) w.urgency ||
  moved clampWeight w.weight || moved clampCells w.floor || moved clampCells w.ceiling ||
  moved clampBurst w.burstCap || decide ((w.onto c).ceiling < (w.onto c).floor)

/-- The sum of the floors of all flow records that name a port (R137, R142). -/
def floorSum (flows : Table FlowConfig 96) (e : TargetPort) : Nat :=
  (((List.finRange 96).filter fun f => (Table.get flows f).port == e).map fun f => (Table.get flows f).floor).sum

/-- The requests of a FLOW_SET that changes a flow's configuration from `c` to `x`, in the order of R138. -/
def flowRequests (f : Flow) (c x : FlowConfig) : List Request :=
  (if x.port ≠ c.port then [.flowTake f x.port (arbiterViewOf x)] else []) ++
  (if rateViewOf x ≠ rateViewOf c then [.bound f (rateViewOf x)] else []) ++
  (if arbiterViewOf x ≠ arbiterViewOf c ∧ x.port = c.port then [.flowConfig f (arbiterViewOf x)] else []) ++
  (if x.port ≠ c.port then [.targetPort f x.port] else [])

/-- FLOW_SET when it is taken (R137, R138): the lock check, the reserve check, and, for a change of target port, the release
that the old arbiter decides; without such a change the executor writes the configuration at once. -/
def State.beginFlowSet (s : State) (j : Running) (f : Flow) (w : FlowWrite) : State :=
  let c := Table.get s.cmd.flows f
  let x := (w.onto c).raiseCeiling
  let after := Table.put s.cmd.flows f x
  if s.cmd.lockClosed && x.floor != c.floor then s.endCommand { j with status := .refusedLocked }
  else if (c.floor < x.floor ∨ (x.port ≠ c.port ∧ 0 < x.floor)) ∧
      (Table.get s.cmd.ports x.port).reserve < floorSum after x.port then
    s.endCommand { j with status := .refusedReserve }
  else
    let j := { j with status := doneOr (w.clamps c) }
    if x.port ≠ c.port then
      s.launch { j with todo := .release f c.port :: flowRequests f c x, commit := some (.flow f x) }
    else (s.commit (.flow f x)).launch { j with todo := flowRequests f c x }

/-- The configuration that a PORT_SET results in (R136, R142); a named reserve is lowered to the resulting capacity. -/
def PortWrite.onto (w : PortWrite) (c : PortConfig) : PortConfig :=
  let capacity := (w.capacity.map clampCapacity).getD c.capacity
  { capacity := capacity
    reserve := (w.reserve.map fun v => min v capacity).getD c.reserve
    maxGrant := (w.maxGrant.map clampMaxGrant).getD c.maxGrant
    minGrant := (w.minGrant.map clampMinGrant).getD c.minGrant
    lifetime := (w.lifetime.map clampLifetime).getD c.lifetime
    urgentSlots := (w.urgentSlots.map clampUrgentSlots).getD c.urgentSlots
    classMask := (w.classMask.map clampClassMask).getD c.classMask }

/-- Whether a PORT_SET wrote a value other than the one it carried (R136, R142). -/
def PortWrite.clamps (w : PortWrite) (c : PortConfig) : Bool :=
  moved clampCapacity w.capacity || moved (fun v => min v (w.onto c).capacity) w.reserve ||
  moved clampMaxGrant w.maxGrant || moved clampMinGrant w.minGrant || moved clampLifetime w.lifetime ||
  moved clampUrgentSlots w.urgentSlots || moved clampClassMask w.classMask || moved clampThreshold w.threshold

/-- The requests of a PORT_SET after its configuration is written (R143). -/
def portRequests (e : TargetPort) (c x : PortConfig) : List Request :=
  (if x.capacity ≠ c.capacity then [.capacity e x.capacity] else []) ++
  (if portViewOf x ≠ portViewOf c then [.port e (portViewOf x)] else [])

/-- PORT_SET when it is taken (R142, R143). -/
def State.beginPortSet (s : State) (j : Running) (e : TargetPort) (w : PortWrite) : State :=
  let c := Table.get s.cmd.ports e
  let x := w.onto c
  if s.cmd.lockClosed && x.reserve != c.reserve then s.endCommand { j with status := .refusedLocked }
  else if w.capacity.isSome ∧ w.reserve = none ∧ x.capacity < c.reserve then
    s.endCommand { j with status := .refusedReserve }
  else if x.reserve < floorSum s.cmd.flows e then s.endCommand { j with status := .refusedReserve }
  else
    let j := { j with status := doneOr (w.clamps c) }
    if w.enable.isSome ∨ w.threshold.isSome then
      s.launch { j with
        todo := .monitor e w.enable (w.threshold.map clampThreshold) :: portRequests e c x
        commit := some (.port e x) }
    else (s.commit (.port e x)).launch { j with todo := portRequests e c x }

/-- HOSTPORT_SET when it is taken (R145); an empty presence set sends no request (R136). -/
def State.beginHostportSet (s : State) (j : Running) (h : HostPort) (w : HostWrite) : State :=
  let c := Table.get s.cmd.hosts h
  let x : HostRecord := { tagged := w.tagged.getD c.tagged, limit := (w.limit.map clampLimit).getD c.limit }
  if w.tagged = none ∧ w.limit = none then s.endCommand j
  else
    (s.withCmd { s.cmd with hosts := Table.put s.cmd.hosts h x }).launch
      { j with status := doneOr (moved clampLimit w.limit), todo := [.hostport h x] }

/-- The values that a PROFILE_SET sends, clamped (R136, R146). -/
def ProfileWrite.clamped (w : ProfileWrite) : ProfileWrite :=
  { kp := w.kp.map clampGain, kpShift := w.kpShift.map clampShift, ki := w.ki.map clampGain,
    kiShift := w.kiShift.map clampShift, positiveClamp := w.positiveClamp.map clampCells,
    negativeClamp := w.negativeClamp.map clampCells, startClamp := w.startClamp.map clampCells,
    integratorClamp := w.integratorClamp.map clampIntegratorClamp, startStep := w.startStep.map clampStartStep,
    startHold := w.startHold.map clampShift, windupStop := w.windupStop }

/-- Whether a PROFILE_SET names no field. -/
def ProfileWrite.isEmpty (w : ProfileWrite) : Bool :=
  w.kp.isNone && w.kpShift.isNone && w.ki.isNone && w.kiShift.isNone && w.positiveClamp.isNone &&
  w.negativeClamp.isNone && w.startClamp.isNone && w.integratorClamp.isNone && w.startStep.isNone &&
  w.startHold.isNone && w.windupStop.isNone

/-- PROFILE_SET when it is taken (R146). -/
def State.beginProfileSet (s : State) (j : Running) (i : ProfileIx) (w : ProfileWrite) : State :=
  if w.isEmpty then s.endCommand j
  else s.launch { j with status := doneOr (decide (w.clamped ≠ w)), todo := [.profile i w.clamped] }

/-- The scope that the executor sends: a FLOWSET of 32 or 64 flows is performed as ALL (R153). -/
def Scope.coarsened : Scope → Scope
  | .flowset base mask => if mask ≤ 4 then .flowset base mask else .all
  | x => x

/-- FLOW_READ when it is taken: the configuration part, and the three reads that follow (R141). -/
def State.beginFlowRead (s : State) (j : Running) (f : Flow) : State :=
  let c := Table.get s.cmd.flows f
  s.launch { j with
    payload := .flow { config := c, ctl := powerOnController, demand := zeroDemand, tripped := false }
    todo := [.readController f, .readDemand f, .readTripped c.port] }

/-- PORT_READ when it is taken (R144). -/
def State.beginPortRead (s : State) (j : Running) (e : TargetPort) (sect : Fin 3) : State :=
  if sect = 0 then
    s.launch { j with
      payload := .port
        { config := Table.get s.cmd.ports e, floorSum := floorSum s.cmd.flows e
          condition := { enable := false, linkUp := false, level := 0, threshold := 0, tripFlag := false }
          budget := 0 }
      todo := [.readCondition e, .readBudget e] }
  else s.launch { j with todo := [.readSlots e (sect == 2)] }

/-- FENCE with drain no, which completes in the step that takes it (R157). -/
def State.beginFence (s : State) (j : Running) (notify : Bool) : State :=
  let s := s.endCommand j
  if notify then s.post .executor (.toPort j.port .fenceDone) else s

/-- FENCE with drain: the reads of the eight arbiters, T0 first and T7 last (R158). -/
def State.beginFenceDrain (s : State) (j : Running) (notify : Bool) : State :=
  s.launch { j with notify := notify, todo := (List.finRange 8).map .fenceRead }

/-- RESERVE_LOCK (R149). -/
def State.beginReserveLock (s : State) (j : Running) : State :=
  (s.withCmd { s.cmd with lockClosed := true, consent := PerPort.both false }).endCommand j

/-- Whether a consent set opens the lock: port A's consent under SOLO high, both ports' under SOLO low (R150). -/
def State.consents (s : State) (x : PerPort Bool) : Bool := x.a && (s.solo || x.b)

/-- RESERVE_UNLOCK (R150). -/
def State.beginReserveUnlock (s : State) (j : Running) : State :=
  if s.cmd.lockClosed then
    let x := s.cmd.consent.put j.port true
    if s.consents x then
      (s.withCmd { s.cmd with lockClosed := false, consent := PerPort.both false }).endCommand j
    else (s.withCmd { s.cmd with consent := x }).endCommand { j with status := .consentHeld }
  else s.endCommand j

/-- A command that has passed the checks of R129, in the step that takes it (R126). -/
def State.begin (s : State) (j : Running) : Command → State
  | .flowSet f w => s.beginFlowSet j f w
  | .flowMode f true => s.launch { j with todo := [.startEntry f] }
  | .flowMode f false => s.launch { j with todo := [.offEntry f, .clearing f] }
  | .flowRead f => s.beginFlowRead j f
  | .portSet e w => s.beginPortSet j e w
  | .portRead e sect => s.beginPortRead j e sect
  | .hostportSet h w => s.beginHostportSet j h w
  | .profileSet i w => s.beginProfileSet j i w
  | .epochSet p => s.launch { j with todo := [.epochSet p] }
  | .reshape x a => s.launch { j with todo := [.reshape x.coarsened a] }
  | .fence notify false => s.beginFence j notify
  | .fence notify true => s.beginFenceDrain j notify
  | .reserveLock => s.beginReserveLock j
  | .reserveUnlock => s.beginReserveUnlock j
  | .tripClear e => s.launch { j with todo := [.tripClear e] }
  | .faultRead i => s.launch { j with todo := [.faultRead i] }
  | .faultClear i => s.launch { j with todo := [.faultClear i] }
  | .faultClearAll => s.launch { j with todo := [.faultClearAll] }
  | .eventMask x => s.launch { j with todo := [.eventMask x] }
  | .eventAck x => s.launch { j with todo := [.eventAck x] }

/-- A command record after the two checks of every command; a refused one is answered in the same step (R129). -/
def State.beginRecord (s : State) (p : MPort) (r : CommandRecord) : State :=
  match parseCommand r with
  | .unknown => s.endCommand { fresh p r with status := .refusedUnknown }
  | .range => s.endCommand { fresh p r with status := .refusedRange }
  | .ok c => s.begin (fresh p r) c

/-! ## Taking a command (R124, R125) -/

/-- Whether the command at the head of a port's queue is takeable (R124). -/
def MgmtPort.takeable (m : MgmtPort) : Bool :=
  !m.commands.isEmpty && m.fence.isNone && decide (m.responses.length + bitOf m.promised < Config.queueDepth)

/-- The port whose command the executor takes when it looks (R125). -/
def State.chosenPort (s : State) : Option MPort :=
  if s.cmd.running.isSome then none
  else if (s.mgmt .a).takeable && (s.mgmt .b).takeable then some s.cmd.preference
  else if (s.mgmt .a).takeable then some .a
  else if (s.mgmt .b).takeable then some .b
  else none

/-- The command that the executor takes when it looks, with its port. -/
def State.nextCommand (s : State) : Option (MPort × CommandRecord) :=
  match s.chosenPort with
  | some p => (s.mgmt p).commands.head?.map fun r => (p, r)
  | none => none

/-- The taking of a command: it leaves the head of its port's queue, one response slot is promised, and the preference
moves to the other port (R125). -/
def State.takeFrom (s : State) (p : MPort) : State :=
  let s' := s.setMgmt p { s.mgmt p with commands := (s.mgmt p).commands.tail, promised := true }
  s'.withCmd { s'.cmd with preference := p.other }

/-- The executor takes its next command if that is of a given sort, and begins it. -/
def State.takeIf (s : State) (sort : CommandRecord → Bool) : State :=
  match s.nextCommand with
  | some (p, r) => if sort r then (s.takeFrom p).beginRecord p r else s
  | none => s

/-- COMMAND_TAKE (R125): the executor looks and takes. That the look is a step of its own, with other events of the executor
possible between it and the event of R124 that calls for it, is the model's choice (log entry 27). -/
def execCommandTake (s : State) : Result := s.live fun s => s.takeIf fun _ => true

/-- COMMAND_END (R127): the command whose last request has been answered ends. -/
def execCommandEnd (s : State) : Result :=
  s.live fun s =>
    match s.cmd.running with
    | some j => if j.todo = [] then s.endCommand j else s
    | none => s

end Sys2Proof.Machine
end

