-- ==== Sys2Proof/Machine/Commands.lean ====
section
/-! DEFINITION. One step for each row of the opcode table that names a command of the management ports. Such a step is the
executor's own part in the command: it takes a command of that kind and begins it (R125, R126); for a command whose
remaining requests have no row of their own, it is also the step at which a block takes the next of them. -/

namespace Sys2Proof.Machine

/-- Whether a record's kind field holds a code (R172). -/
def isKind (n : Nat) (r : CommandRecord) : Bool := r[0].toNat == n

/-- Whether a record is of a kind and holds a value in one byte of its body. -/
def isForm (n : Nat) (b : Byte) (v : Byte) (r : CommandRecord) : Bool := isKind n r && b == v

/-- UNKNOWN_COMMAND (R129): a record whose kind names no command is answered REFUSED_UNKNOWN. -/
def execUnknownCommand (s : State) : Result := s.live fun s => s.takeIf fun r => parseCommand r == .unknown

/-- FLOW_SET (R137). -/
def execFlowSet (s : State) : Result := s.live fun s => s.takeIf (isKind 1)

/-- FLOW_MODE_ENABLE (R140). -/
def execFlowModeEnable (s : State) : Result := s.live fun s => s.takeIf fun r => isKind 2 r && choice r[3]

/-- FLOW_MODE_DISABLE (R140). -/
def execFlowModeDisable (s : State) : Result := s.live fun s => s.takeIf fun r => isKind 2 r && !choice r[3]

/-- A payload under construction with the controller fields read. -/
def Payload.withController : Payload → Controller → Payload
  | .flow x, c => .flow { x with ctl := c }
  | x, _ => x

/-- A payload under construction with the demand and token fields read. -/
def Payload.withDemand : Payload → Demand → Payload
  | .flow x, d => .flow { x with demand := d }
  | x, _ => x

/-- A payload under construction with the tripped condition evaluated from the trip enable read before and a trip flag. -/
def Payload.withTripFlag : Payload → Bool → Payload
  | .flow x, flag => .flow { x with tripped := x.config.tripEnable && flag }
  | x, _ => x

/-- A read request of a FLOW_READ taken by its block: Rate Engine, arbiter, Port Monitor (R141). -/
def State.readFlowPart (s : State) (j : Running) (q : Request) : Option State :=
  match q with
  | .readController f => some (s.withRunning (some { j with payload := j.payload.withController (s.rflow f).ctl }))
  | .readDemand f => some (s.withRunning (some { j with payload := j.payload.withDemand (s.flow f).demand }))
  | .readTripped e => some (s.withRunning (some { j with payload := j.payload.withTripFlag (s.mon e).tripFlag }))
  | _ => none

/-- FLOW_READ (R141). -/
def execFlowRead (s : State) : Result :=
  s.live fun s => (s.request s.readFlowPart).getD (s.takeIf (isKind 3))

/-- PORT_SET (R142). -/
def execPortSet (s : State) : Result := s.live fun s => s.takeIf (isKind 4)

/-- The condition part of a PORT_READ, as a Port Monitor answers it (R144). -/
def Monitor.condition (m : Monitor) : PortCondition :=
  { enable := m.enable, linkUp := m.linkUp, level := m.level, threshold := m.threshold, tripFlag := m.tripFlag }

/-- A payload under construction with a port's condition read. -/
def Payload.withCondition : Payload → PortCondition → Payload
  | .port x, c => .port { x with condition := c }
  | x, _ => x

/-- A payload under construction with a port's grant budget read. -/
def Payload.withBudget : Payload → Nat → Payload
  | .port x, b => .port { x with budget := b }
  | x, _ => x

/-- The slot summary of slots 0 to 3, or of slots 4 to 7 (R87, R144). -/
def Arbiter.slotSummary (a : Arbiter) (upper : Bool) : List GrantSlot :=
  if upper then [Table.get a.slots 4, Table.get a.slots 5, Table.get a.slots 6, Table.get a.slots 7]
  else [Table.get a.slots 0, Table.get a.slots 1, Table.get a.slots 2, Table.get a.slots 3]

/-- A read request of a PORT_READ taken by its block: Port Monitor or arbiter (R144). -/
def State.readPortPart (s : State) (j : Running) (q : Request) : Option State :=
  match q with
  | .readCondition e => some (s.withRunning (some { j with payload := j.payload.withCondition (s.mon e).condition }))
  | .readBudget e => some (s.withRunning (some { j with payload := j.payload.withBudget (s.arb e).budget }))
  | .readSlots e upper => some (s.withRunning (some { j with payload := .slots ((s.arb e).slotSummary upper) }))
  | _ => none

/-- PORT_READ (R144). -/
def execPortRead (s : State) : Result :=
  s.live fun s => (s.request s.readPortPart).getD (s.takeIf (isKind 5))

/-- HOSTPORT_SET (R145). -/
def execHostportSet (s : State) : Result := s.live fun s => s.takeIf (isKind 6)

/-- PROFILE_SET (R146). -/
def execProfileSet (s : State) : Result := s.live fun s => s.takeIf (isKind 7)

/-- EPOCH_SET (R147). -/
def execEpochSet (s : State) : Result := s.live fun s => s.takeIf (isKind 8)

/-- RESHAPE_RESTART (R154). -/
def execReshapeRestart (s : State) : Result := s.live fun s => s.takeIf fun r => isForm 9 r[3] 0 r

/-- RESHAPE_FREEZE (R155). -/
def execReshapeFreeze (s : State) : Result := s.live fun s => s.takeIf fun r => isForm 9 r[3] 1 r

/-- RESHAPE_THAW (R155). -/
def execReshapeThaw (s : State) : Result := s.live fun s => s.takeIf fun r => isForm 9 r[3] 2 r

/-- FENCE (R157): a FENCE with drain no. -/
def execFence (s : State) : Result := s.live fun s => s.takeIf fun r => isKind 10 r && !choice r[3]

/-- FENCE_DRAIN (R158): a FENCE with drain yes is taken, or the answer to one of its reads is. -/
def execFenceDrain (s : State) : Result :=
  s.live fun s => (s.request s.takeAnswer).getD (s.takeIf fun r => isKind 10 r && choice r[3])

/-- RESERVE_LOCK (R149). -/
def execReserveLock (s : State) : Result := s.live fun s => s.takeIf (isKind 11)

/-- RESERVE_UNLOCK (R150). -/
def execReserveUnlock (s : State) : Result := s.live fun s => s.takeIf (isKind 12)

/-- TRIP_CLEAR (R115). -/
def execTripClear (s : State) : Result := s.live fun s => s.takeIf (isKind 13)

/-- A request of FAULT_READ taken by the Fault and Event Unit (R164). -/
def State.readFault (s : State) (j : Running) (q : Request) : Option State :=
  match q with
  | .faultRead i =>
    some (s.withRunning (some { j with payload := .fault (Table.get s.unit.table i) s.unit.overflow }))
  | _ => none

/-- FAULT_READ (R164). -/
def execFaultRead (s : State) : Result :=
  s.live fun s => (s.request s.readFault).getD (s.takeIf (isKind 14))

/-- A request of FAULT_CLEAR with an index taken by the unit: the record becomes empty (R164). -/
def State.clearFault (s : State) (j : Running) (q : Request) : Option State :=
  match q with
  | .faultClear i =>
    some ((s.withUnit { s.unit with table := Table.put s.unit.table i none }).withRunning (some j))
  | _ => none

/-- FAULT_CLEAR with an index (R164). -/
def execFaultClear (s : State) : Result :=
  s.live fun s => (s.request s.clearFault).getD (s.takeIf fun r => isKind 15 r && r[2] != 255#8)

/-- A request of FAULT_CLEAR with all taken by the unit: every record becomes empty and the overflow flag is cleared (R164). -/
def State.clearFaults (s : State) (j : Running) (q : Request) : Option State :=
  match q with
  | .faultClearAll =>
    some ((s.withUnit { s.unit with table := Table.const 8 none, overflow := false }).withRunning (some j))
  | _ => none

/-- FAULT_CLEAR_ALL (R164). -/
def execFaultClearAll (s : State) : Result :=
  s.live fun s => (s.request s.clearFaults).getD (s.takeIf fun r => isKind 15 r && r[2] == 255#8)

/-- A request of EVENT_MASK taken by the unit: the set is the issuing port's mask (R167). -/
def State.writeMask (s : State) (j : Running) (q : Request) : Option State :=
  match q with
  | .eventMask x => some ((s.withUnit { s.unit with mask := s.unit.mask.put j.port x }).withRunning (some j))
  | _ => none

/-- EVENT_MASK (R167). -/
def execEventMask (s : State) : Result :=
  s.live fun s => (s.request s.writeMask).getD (s.takeIf (isKind 16))

/-- A request of EVENT_ACK taken by the unit: the causes named leave the issuing port's pending set (R167). -/
def State.acknowledge (s : State) (j : Running) (q : Request) : Option State :=
  match q with
  | .eventAck x =>
    some ((s.withUnit
      { s.unit with pending := s.unit.pending.put j.port ((s.unit.pending.get j.port).without x) }).withRunning (some j))
  | _ => none

/-- EVENT_ACK (R167). -/
def execEventAck (s : State) : Result :=
  s.live fun s => (s.request s.acknowledge).getD (s.takeIf (isKind 17))

end Sys2Proof.Machine
end

