-- ==== Sys2Proof/Machine/FaultUnit.lean ====
section
/-! DEFINITION. The Fault and Event Unit (spec 10_faults_and_events.md). -/

namespace Sys2Proof.Machine

/-- A cause added to a port's pending set; a port that is not fitted keeps its set empty (R130, R165). -/
def State.addPending (s : State) (p : MPort) (c : Cause) : State :=
  if s.fitted p then
    s.withUnit { s.unit with pending := s.unit.pending.put p ((s.unit.pending.get p).add c) }
  else s

/-- A cause posted to both management ports (R163, R165). -/
def State.addPendingBoth (s : State) (c : Cause) : State := (s.addPending .a c).addPending .b c

/-- A posting taken whole: its cause is added at every port that it names (R165). -/
def State.takePosting (s : State) : Posting → State
  | .toBoth c => s.addPendingBoth c
  | .toPort p c => s.addPending p c

/-- The record in use with a report's kind, flow and target port, an absent field equalling an absent one (R163). -/
def FaultUnit.matching (u : FaultUnit) (r : FaultReport) : Option FaultIx :=
  (List.finRange 8).find? fun i => (Table.get u.table i).any fun x => x.key == r

/-- The lowest-numbered empty record (R163). -/
def FaultUnit.lowestEmpty (u : FaultUnit) : Option FaultIx :=
  (List.finRange 8).find? fun i => (Table.get u.table i).isNone

/-- A record that a report is coalesced into (R163). -/
def FaultRecord.coalesce (x : FaultRecord) (epoch : Epoch) : FaultRecord :=
  { x with last := epoch, count := min (x.count + 1) Config.repeatMax }

/-- The unit with another record in its fault table. -/
def FaultUnit.put (u : FaultUnit) (i : FaultIx) (x : Option FaultRecord) : FaultUnit :=
  { u with table := Table.put u.table i x }

/-- A fault report taken by the unit, in its three outcomes (R163). -/
def State.takeReport (s : State) (r : FaultReport) : State :=
  match s.unit.matching r with
  | some i => s.withUnit (s.unit.put i ((Table.get s.unit.table i).map fun x => x.coalesce s.timer.epoch))
  | none =>
    match s.unit.lowestEmpty with
    | some i =>
      (s.withUnit (s.unit.put i
        (some { key := r, first := s.timer.epoch, last := s.timer.epoch, count := 1 }))).addPendingBoth .fault
    | none => if s.unit.overflow then s else (s.withUnit { s.unit with overflow := true }).addPendingBoth .fault

/-- FAULT_REPORT (R163): the unit takes the oldest report that a block has sent. -/
def execFaultReport (src : Source) (s : State) : Result :=
  s.live fun s =>
    match s.reportsOf src with
    | r :: rest => (s.setReports src rest).takeReport r
    | [] => s

/-- Whether a posting names a management port, alone or with the other one. -/
def Posting.names (x : Posting) (p : MPort) : Bool :=
  match x with
  | .toBoth _ => true
  | .toPort q _ => q == p

/-- EVENT_POST (R165): the unit takes whole a block's oldest posting that names port `p`, at the other port too where it
names both. -/
def execEventPost (src : Source) (p : MPort) (s : State) : Result :=
  s.live fun s =>
    match (s.postsOf src).find? fun x => x.names p with
    | some x => (s.setPosts src ((s.postsOf src).erase x)).takePosting x
    | none => s

/-- Whether a port's event line is asserted: its pending set holds a cause that its mask leaves unmasked (R166). -/
def State.eventLine (s : State) (p : MPort) : Bool :=
  s.fitted p && ((s.unit.pending.get p).without (s.unit.mask.get p)).any

end Sys2Proof.Machine
end

