-- ==== Sys2Proof/Machine/PortMonitor.lean ====
section
/-! DEFINITION. The Port Monitors (spec 06_target_port_conditions.md). -/

namespace Sys2Proof.Machine

/-- Shutdown of port `e` (R108, R117): the link is DOWN, the enable clear and the level 0; the arbiter is sent a
shutdown request, which calls for CANCEL records or not; PORT_DOWN is reported and posted to both ports. -/
def State.shutdown (s : State) (e : TargetPort) (cancels : Bool) : State :=
  (((s.setMon e { s.mon e with linkUp := false, enable := false, level := 0 }).setArb e
    { s.arb e with shutdowns := (s.arb e).shutdowns ++ [cancels] }).report (.monitor e)
      { kind := .portDown, flow := none, port := some e }).post (.monitor e) (.toBoth .portDown)

/-- A TSTAT record reporting UP (R110, R113): the level is stored and the trip test made; the flag is set, and TRIP
posted, only when it was clear. -/
def State.statusUp (s : State) (e : TargetPort) (level : Nat) : State :=
  let m := s.mon e
  if m.threshold ≤ level ∧ m.tripFlag = false then
    (s.setMon e { m with linkUp := true, level := level, tripFlag := true }).post (.monitor e) (.toBoth .trip)
  else s.setMon e { m with linkUp := true, level := level }

/-- A TSTAT record at its monitor, by the link state held and the indication in the record (R107). -/
def State.takeStatus (s : State) (e : TargetPort) (up : Bool) (level : Nat) : State :=
  if up then s.statusUp e level else if (s.mon e).linkUp then s.shutdown e true else s

/-- The state with the oldest message of a monitor taken off its inbox. -/
def State.popMonitor (s : State) (e : TargetPort) (rest : List MonitorMsg) : State :=
  s.setMon e { s.mon e with inbox := rest }

/-- TSTAT (R107). -/
def execTstat (e : TargetPort) (s : State) : Result :=
  s.live fun s =>
    match (s.mon e).inbox with
    | .status up level :: rest => (s.popMonitor e rest).takeStatus e up level
    | _ => s

/-- A link-loss request at its monitor: one that holds its link UP shuts its port down without CANCEL records. One that holds
it DOWN sends its arbiter nothing, as R117 says against R84's every Port Monitor (log entry 25). -/
def State.takeLoss (s : State) (e : TargetPort) : State := if (s.mon e).linkUp then s.shutdown e false else s

/-- A monitor takes a message (R107, R117). -/
def State.takeMessage (s : State) (e : TargetPort) : MonitorMsg → State
  | .status up level => s.takeStatus e up level
  | .linkLoss => s.takeLoss e

/-- A monitor takes the messages of its inbox one by one, in their order, as long as a link-loss request is among them. -/
def State.takeThroughLoss (e : TargetPort) : List MonitorMsg → State → State
  | [], s => s
  | m :: rest, s =>
    if (m :: rest).contains .linkLoss then State.takeThroughLoss e rest ((s.popMonitor e rest).takeMessage e m) else s

/-- Every monitor takes its messages through its last link-loss request (R117). -/
def State.takeLosses (s : State) : State :=
  (List.finRange 8).foldl (fun s e => State.takeThroughLoss e (s.mon e).inbox s) s

/-- LINK_LOSS_REQUEST (R117). -/
def execLinkLossRequest (e : TargetPort) (s : State) : Result :=
  s.live fun s =>
    match (s.mon e).inbox with
    | .linkLoss :: rest => (s.popMonitor e rest).takeLoss e
    | _ => s

/-- A monitor that takes the enable and threshold of a PORT_SET, each where the command names it (R111, R112, R143). -/
def Monitor.configure (m : Monitor) (enable : Option Bool) (threshold : Option Nat) : Monitor :=
  { m with enable := enable.getD m.enable, threshold := threshold.getD m.threshold }

/-- MONITOR_REQUEST (R143): an enable while the link is DOWN refuses the whole request; otherwise the monitor takes it
and the executor writes the port's configuration. -/
def execMonitorRequest (s : State) : Result :=
  s.live fun s => s.onRequest fun j q =>
    match q with
    | .monitor e enable threshold =>
      if enable = some true ∧ (s.mon e).linkUp = false then
        some (s.withRunning (some (j.refuse .refusedLinkdown)))
      else
        some (((s.setMon e ((s.mon e).configure enable threshold)).commitOf j).withRunning
          (some { j with commit := none }))
    | _ => none

/-- TRIP_CLEAR_REQUEST (R115): refused while the level is at or above the threshold. -/
def execTripClearRequest (s : State) : Result :=
  s.live fun s => s.onRequest fun j q =>
    match q with
    | .tripClear e =>
      if (s.mon e).threshold ≤ (s.mon e).level then some (s.withRunning (some (j.refuse .refusedTripped)))
      else some ((s.setMon e { s.mon e with tripFlag := false }).withRunning (some j))
    | _ => none

end Sys2Proof.Machine
end

