-- ==== Sys2Proof/Machine/LinkInterface.lean ====
section
/-! DEFINITION. The Link Interface: the fabric link state, the inbound records and the outbound ones
(spec 05, section 5.1 and 5.2; spec 11, section 11.1). -/

namespace Sys2Proof.Machine

/-- The fabric link goes DOWN (R170): both counts are zeroed, the outbound records not yet sent are discarded, each
Port Monitor is sent the link-loss request, and LINK_DOWN is posted to both ports. Every port is disabled at once (R42); the rest
of its shutdown comes when its monitor takes the request (R117; log entry 30). -/
def State.linkDown (s : State) : State :=
  ((s.withLink { s.link with up := false, failCount := 0, goodCount := 0, waiting := Table.const 8 [] }).withMonitors
    (Table.tab fun e => { s.mon e with enable := false, inbox := (s.mon e).inbox ++ [MonitorMsg.linkLoss] })).post .link (.toBoth .linkDown)

/-- LANE_LOCK_GAIN (R170). Lane lock is no state of the part, so it is gained while RESET is low too. -/
def execLaneLockGain (s : State) : Result := .next (s.withLink { s.link with laneLock := true })

/-- LANE_LOCK_LOSS (R170): an UP link goes DOWN at once, and a DOWN link zeroes its good count. -/
def execLaneLockLoss (s : State) : Result :=
  let s' := s.withLink { s.link with laneLock := false }
  .next (if s.resetLow then s' else if s.link.up then s'.linkDown else s'.withLink { s'.link with goodCount := 0 })

/-- A record that fails its check (R169, R170). While the link is UP it is reported and counted, and the eighth in a row
takes the link DOWN; while the link is DOWN it zeroes the good count. -/
def State.failedRecord (s : State) : State :=
  if s.link.up then
    let s' := s.report .link { kind := .linkCheck, flow := none, port := none }
    if Config.failLimit ≤ s.link.failCount + 1 then s'.linkDown
    else s'.withLink { s'.link with failCount := s.link.failCount + 1 }
  else s.withLink { s.link with goodCount := 0 }

/-- A record that passes its check (R170). While the link is UP, or when it is the fourth good record in a row on a
DOWN link, the record is handled; otherwise it is only counted. The fourth record makes the link UP whatever the monitors
hold, and every target port is still DOWN at that point, so link-loss requests which are untaken then are taken in that event,
before the link comes UP (log entry 28). -/
def State.passedRecord (s : State) (handle : State → State) : State :=
  if s.link.up then handle (s.withLink { s.link with failCount := 0 })
  else if Config.goodLimit ≤ s.link.goodCount + 1 then
    let s := s.takeLosses
    handle (s.withLink { s.link with up := true, failCount := 0, goodCount := 0 })
  else s.withLink { s.link with goodCount := s.link.goodCount + 1 }

/-- A record arrives on the receive lane; none can be framed without lane lock (R170). -/
def State.arrives (s : State) (is : Bool) (take : State → State) : Result :=
  s.live fun s => if s.link.laneLock && is then take s else s

/-- The fault of a record that names no host port, carries too many cells or has an unknown kind (R162). -/
def State.badRecord (s : State) : State := s.report .link { kind := .badRecord, flow := none, port := none }

/-- RECORD_CHECK_FAILURE (R169). -/
def execRecordCheckFailure (r : LinkRecord) (s : State) : Result :=
  s.arrives (!checkPasses r) State.failedRecord

/-- UNKNOWN_KIND_RECORD (R169). -/
def execUnknownKindRecord (r : LinkRecord) (s : State) : Result :=
  s.arrives (checkPasses r && inboundKind r == .unknown) fun s => s.passedRecord State.badRecord

/-- The flow that a host port and tag decode to, in the mode that the Link Interface's view holds (R90). -/
def decodeFlow (host : HostRecord) (h : HostPort) (tag : Fin 4) (valid : Bool) : Option Flow :=
  if host.tagged then
    if valid then some ⟨h.val * 4 + tag.val, by omega⟩ else none
  else some ⟨h.val * 4, by omega⟩

/-- The Link Interface passes an arbiter a record (R88). -/
def State.passToArbiter (s : State) (e : TargetPort) (m : ArbiterMsg) : State :=
  s.setArb e { s.arb e with inbox := (s.arb e).inbox ++ [m] }

/-- The fifth check of a BACKLOG record: a backlog above the host port's limit is replaced by the limit (R93). -/
def State.passBacklog (s : State) (f : Flow) (limit : Nat) (x : BacklogFields) : State :=
  if limit < x.cells then
    (s.report .link { kind := .backlogClamped, flow := some f, port := some x.port }).passToArbiter x.port
      (.backlog f limit x.flush)
  else s.passToArbiter x.port (.backlog f x.cells x.flush)

/-- The checks of a BACKLOG record in their fixed order (R89 to R93). -/
def State.takeBacklog (s : State) (x : BacklogFields) : State :=
  match indexOf 24 x.host with
  | none => s.badRecord
  | some h =>
    match decodeFlow (Table.get s.link.hosts h) h x.tag x.tagValid with
    | none => s.report .link { kind := .tagMissing, flow := none, port := some x.port }
    | some f =>
      if s.isOff f then s.report .link { kind := .unboundReport, flow := some f, port := some x.port }
      else if Table.get s.link.flowPort f ≠ x.port then
        s.report .link { kind := .misroute, flow := some f, port := some x.port }
      else s.passBacklog f (Table.get s.link.hosts h).limit x

/-- BACKLOG (R89). -/
def execBacklog (r : LinkRecord) (s : State) : Result :=
  s.arrives (checkPasses r && inboundKind r == .backlog) fun s =>
    s.passedRecord fun s => s.takeBacklog (backlogFields r)

/-- A DONE record at the Link Interface: a cell count above 1024 is discarded, and any other record goes to the arbiter
that its tag names (R97). -/
def State.takeDone (s : State) (x : DoneFields) : State :=
  if Config.maxGrantCells < x.cells then s.badRecord
  else s.passToArbiter x.tag.port (.done x.tag x.cells x.endMark)

/-- DONE (R97). -/
def execDone (r : LinkRecord) (s : State) : Result :=
  s.arrives (checkPasses r && inboundKind r == .done) fun s =>
    s.passedRecord fun s => s.takeDone (doneFields r)

/-- A TSTAT record goes to the Port Monitor that it names (R88, R107). -/
def State.takeTstat (s : State) (x : TstatFields) : State :=
  s.setMon x.port { s.mon x.port with inbox := (s.mon x.port).inbox ++ [MonitorMsg.status x.up x.level] }

/-- TSTAT_ROUTE (R88). -/
def execTstatRoute (r : LinkRecord) (s : State) : Result :=
  s.arrives (checkPasses r && inboundKind r == .tstat) fun s =>
    s.passedRecord fun s => s.takeTstat (tstatFields r)

/-- LINK_RECORD_SEND (R78): the oldest waiting record of arbiter `e` goes out on the link. -/
def execLinkRecordSend (e : TargetPort) (s : State) : Result :=
  s.live fun s =>
    match Table.get s.link.waiting e with
    | r :: rest =>
      if s.link.up then
        s.withLink { s.link with waiting := Table.put s.link.waiting e rest, sent := some (outBytes r) }
      else s
    | [] => s

/-- TARGET_PORT_REQUEST (R139). -/
def execTargetPortRequest (s : State) : Result :=
  s.live fun s => s.onRequest fun j q =>
    match q with
    | .targetPort f e =>
      some ((s.withLink { s.link with flowPort := Table.put s.link.flowPort f e }).withRunning (some j))
    | _ => none

/-- HOSTPORT_REQUEST (R145). -/
def execHostportRequest (s : State) : Result :=
  s.live fun s => s.onRequest fun j q =>
    match q with
    | .hostport h x => some ((s.withLink { s.link with hosts := Table.put s.link.hosts h x }).withRunning (some j))
    | _ => none

end Sys2Proof.Machine
end

