-- ==== Sys2Proof/Machine/RateEngine.lean ====
section
/-! DEFINITION. The Rate Engine: the tally queue, share division (spec 02, sections 2.3 to 2.7), the rate controller
(spec 03_the_rate_controller.md) and the requests that the Command Executor sends it. -/

namespace Sys2Proof.Machine

/-! ## The tally queue (R32, R33) -/

/-- A flow's entry of a tally. -/
def Tally.entryOf (t : Tally) (f : Flow) : Option TallyEntry := t.entries.find? fun x => x.flow == f

/-- The entry of a merged tally for a flow with an entry in both: delivered is the sum, saturating, and the rest comes from
the newer entry (R33). -/
def TallyEntry.merge (old new : TallyEntry) : TallyEntry :=
  { new with delivered := min (old.delivered + new.delivered) Config.deliveredMax }

/-- The entry of a merged tally for a flow, if either tally has one (R33). -/
def mergedEntry (old new : Tally) (f : Flow) : Option TallyEntry :=
  match old.entryOf f, new.entryOf f with
  | some x, some y => some (x.merge y)
  | some x, none => some x
  | none, y => y

/-- A queued tally merged with a newer one for the same port, flow by flow (R33). -/
def Tally.merge (old new : Tally) : Tally :=
  { port := old.port, entries := (List.finRange 96).filterMap (mergedEntry old new) }

/-- The tally queue with a newer tally merged into the queued one of its port, in that one's place. -/
def mergeInto (new : Tally) : List Tally → List Tally
  | [] => []
  | t :: rest => if t.port = new.port then t.merge new :: rest else t :: mergeInto new rest

/-- A tally that reaches the Rate Engine (R32): it joins the tail, or it is merged and TALLY_MERGED is reported (R33). -/
def State.enqueueTally (s : State) (t : Tally) : State :=
  if s.rate.queue.any fun x => x.port == t.port then
    (s.withRate { s.rate with queue := mergeInto t s.rate.queue }).report .rate
      { kind := .tallyMerged, flow := none, port := some t.port }
  else s.withRate { s.rate with queue := s.rate.queue ++ [t] }

/-- TALLY_ARRIVAL (R32): the oldest tally that arbiter `e` has sent reaches the Rate Engine. -/
def execTallyArrival (e : TargetPort) (s : State) : Result :=
  s.live fun s =>
    match (s.arb e).tallies with
    | t :: rest => (s.setArb e { s.arb e with tallies := rest }).enqueueTally t
    | [] => s

/-! ## The stages of the rate controller (R43) -/

/-- The error of a computation: the target less the delivered figure, capped, and clamped into the limits of the flow's
state (R45, R46). -/
def errorOf (p : Profile) (st : FlowState) (t d : Nat) : Int :=
  clampInt (-(p.negativeClamp : Int)) (if st = .start then (p.startClamp : Int) else (p.positiveClamp : Int))
    ((t : Int) - (min d Config.errorDeliveredMax : Nat))

/-- Whether windup stop holds the integrator (R48). -/
def windupHolds (p : Profile) (sat : Saturation) (e : Int) : Bool :=
  p.windupStop && ((sat == .high && decide (0 < e)) || (sat == .low && decide (e < 0)))

/-- The integrator after a computation with error `e` (R47, R48). -/
def integratorOf (p : Profile) (c : Controller) (e : Int) : Int :=
  if windupHolds p c.saturation e then c.integrator
  else clampInt (-(p.integratorClamp : Int)) p.integratorClamp (c.integrator + e)

/-- A term of the output: floor division of a product by a power of 2 (R49 to R51). -/
def outputTerm (gain shift : Nat) (x : Int) : Int := ((gain : Int) * x).fdiv ((2 ^ shift : Nat) : Int)

/-- The output: the proportional term plus the integral term (R49, R50). -/
def outputOf (p : Profile) (e integrator : Int) : Int :=
  outputTerm p.kp p.kpShift e + outputTerm p.ki p.kiShift integrator

/-- Whether the start-step limit acts on a candidate rate (R53). -/
def stepActs (p : Profile) (c : Controller) (candidate : Int) : Bool :=
  c.state == .start && decide (((c.rate + p.startStep : Nat) : Int) < candidate)

/-- The candidate rate as limited in START (R53). -/
def limited (p : Profile) (c : Controller) (candidate : Int) : Int :=
  if stepActs p c candidate then ((c.rate + p.startStep : Nat) : Int) else candidate

/-- The bound clamp: from the floor to the lesser of the ceiling and the capacity (R54). -/
def boundClamp (floor ceiling capacity : Nat) (x : Int) : Int :=
  clampInt floor ((min ceiling capacity : Nat) : Int) x

/-- The saturation outcome: `acted` says whether the start-step limit acted, and the clamp brought `before` to `after` (R55). -/
def saturationOf (acted : Bool) (before after : Int) : Saturation :=
  if acted then .high else if after < before then .high else if before < after then .low else .none

/-- The start count after a computation, and the exit from START to RUN (R19, R59). -/
def startStage (p : Profile) (t d : Nat) (c : Controller) : Controller :=
  if c.state = .start then
    let n := min (c.startCount + 1) Config.startCountMax
    { c with startCount := n, state := if t ≤ d ∧ p.startHold ≤ n then .run else .start }
  else c

/-- The rate controller run for an active, unfrozen flow with target `t` and delivered figure `d` (R43 to R59). -/
def runController (p : Profile) (floor ceiling capacity t d : Nat) (c : Controller) : Controller :=
  let e := errorOf p c.state t d
  let i := integratorOf p c e
  let candidate := (t : Int) + outputOf p e i
  let x := limited p c candidate
  let r := boundClamp floor ceiling capacity x
  startStage p t d
    { c with
      lastError := e, integrator := i, rate := r.toNat
      saturation := saturationOf (stepActs p c candidate) x r }

/-! ## A tally computation (R34 to R41) -/

/-- Whether the Rate Engine holds a flow as bound to a port. -/
def State.boundTo (s : State) (e : TargetPort) (f : Flow) : Bool := (s.rflow f).view.port == e

/-- Whether the Rate Engine finds a flow of port `e` tripped (R16). -/
def State.rateTripped (s : State) (e : TargetPort) (f : Flow) : Bool :=
  (s.rflow f).view.tripEnable && (s.mon e).tripFlag

/-- The entry a computation uses for a flow: with none in the tally, the flow has delivered 0 and demands nothing (R36). -/
def Tally.figure (t : Tally) (f : Flow) : TallyEntry :=
  (t.entryOf f).getD { flow := f, delivered := 0, demanding := false, grants := 0 }

/-- Whether a flow is in the active set of the computation of a tally (R37). -/
def State.active (s : State) (t : Tally) (f : Flow) : Bool :=
  s.boundTo t.port f && !s.isOff f && !s.rateTripped t.port f &&
  ((t.figure f).demanding || decide (0 < (t.figure f).delivered) || decide (0 < (t.figure f).grants))

/-- The active set of a computation, in flow-index order. -/
def State.activeSet (s : State) (t : Tally) : List Flow := (List.finRange 96).filter (s.active t)

/-- The floor sum of the active set (R38). -/
def State.floorSumActive (s : State) (t : Tally) : Nat := ((s.activeSet t).map fun f => (s.rflow f).view.floor).sum

/-- The weight sum of the active set (R38). -/
def State.weightSumActive (s : State) (t : Tally) : Nat := ((s.activeSet t).map fun f => (s.rflow f).view.weight).sum

/-- The surplus: the port's capacity less the floor sum (R38). -/
def State.surplus (s : State) (t : Tally) : Nat := Table.get s.rate.capacity t.port - s.floorSumActive t

/-- The base share of a flow: the floor division of the surplus times its weight by the weight sum (R39). -/
def State.baseShare (s : State) (t : Tally) (f : Flow) : Nat :=
  s.surplus t * (s.rflow f).view.weight / s.weightSumActive t

/-- The target of a flow: the lesser of its floor plus its base share and its ceiling (R39). -/
def State.target (s : State) (t : Tally) (f : Flow) : Nat :=
  min ((s.rflow f).view.floor + s.baseShare t f) (s.rflow f).view.ceiling

/-- The controller fields of a flow after a computation: an active flow has its target stored, and the controller run
unless it is frozen (R39, R61); every other flow keeps its fields (R40). -/
def State.computed (s : State) (t : Tally) (f : Flow) : Controller :=
  let x := s.rflow f
  if s.active t f then
    let c := { x.ctl with lastTarget := s.target t f }
    if c.frozen then c
    else
      runController (Table.get s.rate.profiles x.view.profile) x.view.floor x.view.ceiling
        (Table.get s.rate.capacity t.port) (s.target t f) (t.figure f).delivered c
  else x.ctl

/-- The refill that a computation sends for a flow: its rate at the end of the computation, if it is bound to the port, in
START or RUN and not tripped (R41). -/
def State.refillOf (s : State) (t : Tally) (f : Flow) : Option (Flow × Nat) :=
  if s.boundTo t.port f && !s.isOff f && !s.rateTripped t.port f then some (f, (s.computed t f).rate) else none

/-- A tally computed (R36 to R41): the controller fields are stored and the refill set is sent to the port's arbiter. -/
def State.compute (s : State) (t : Tally) : State :=
  (s.withRate { s.rate with
      flows := Table.tab fun f => { view := (s.rflow f).view, ctl := s.computed t f } }).setArb t.port
    { s.arb t.port with refills := (s.arb t.port).refills ++ [(List.finRange 96).filterMap (s.refillOf t)] }

/-- TALLY_COMPUTATION (R34): the head tally is taken, and discarded when its port is disabled or its link DOWN (R35). -/
def execTallyComputation (s : State) : Result :=
  s.live fun s =>
    match s.rate.queue with
    | t :: rest =>
      let s := s.withRate { s.rate with queue := rest }
      if (s.mon t.port).enable && (s.mon t.port).linkUp then s.compute t else s
    | [] => s

/-! ## Requests -/

/-- START entry: the values it sets and those it leaves (R18). -/
def Controller.startEntry (c : Controller) (floor : Nat) : Controller :=
  { c with state := .start, rate := floor, integrator := 0, startCount := 0, saturation := .none }

/-- OFF entry (R20). -/
def Controller.offEntry (c : Controller) : Controller := { c with state := .off, rate := 0, integrator := 0 }

/-- A flow of the Rate Engine that makes the START entry. -/
def RateFlow.start (x : RateFlow) : RateFlow := { x with ctl := x.ctl.startEntry x.view.floor }

/-- START_ENTRY (R18, R140): an OFF flow enters START; a flow in START or RUN is left as it is. -/
def execStartEntry (s : State) : Result :=
  s.live fun s => s.onRequest fun j q =>
    match q with
    | .startEntry f => some ((if s.isOff f then s.setRflow f (s.rflow f).start else s).withRunning (some j))
    | _ => none

/-- OFF_ENTRY (R20, R140), after which the Rate Engine sends the clearing request. -/
def execOffEntry (s : State) : Result :=
  s.live fun s => s.onRequest fun j q =>
    match q with
    | .offEntry f =>
      some ((s.setRflow f { s.rflow f with ctl := (s.rflow f).ctl.offEntry }).withRunning (some j))
    | _ => none

/-- The bound clamps of a request: the refill rate of a flow not OFF is clamped from the new floor to the lesser of the new
ceiling and the capacity of its port, and the integrator into the range of the named profile (R4, R7, R8). -/
def Controller.rebound (c : Controller) (v : RateView) (capacity clamp : Nat) : Controller :=
  { c with
    rate := if c.state = .off then c.rate else clampNat v.floor (min v.ceiling capacity) c.rate
    integrator := clampInt (-(clamp : Int)) clamp c.integrator }

/-- BOUND_REQUEST (R4, R138). -/
def execBoundRequest (s : State) : Result :=
  s.live fun s => s.onRequest fun j q =>
    match q with
    | .bound f v =>
      some ((s.setRflow f
        { view := v
          ctl := (s.rflow f).ctl.rebound v (Table.get s.rate.capacity v.port)
            (Table.get s.rate.profiles v.profile).integratorClamp }).withRunning (some j))
    | _ => none

/-- Whether a scope covers a flow, by the Rate Engine's view of its group and target port (R152, R153). -/
def State.inScope (s : State) (x : Scope) (f : Flow) : Bool :=
  match x with
  | .flowset base mask => f.val / 2 ^ mask == base.val / 2 ^ mask
  | .group g => (s.rflow f).view.group == g
  | .port e => (s.rflow f).view.port == e
  | .all => true

/-- The kind of a scope. -/
def Scope.kind : Scope → ScopeKind
  | .flowset _ _ => .flowset
  | .group _ => .group
  | .port _ => .port
  | .all => .all

/-- A flow that an action is applied to (R154, R155). -/
def RateFlow.reshape (x : RateFlow) : Action → RateFlow
  | .restart => x.start
  | .freeze => { x with ctl := { x.ctl with frozen := true } }
  | .thaw => { x with ctl := { x.ctl with frozen := false } }

/-- Whether a reshape reaches a flow: it is in scope and in START or RUN (R153). -/
def State.reshapes (s : State) (x : Scope) (f : Flow) : Bool := s.inScope x f && !s.isOff f

/-- The performed scope: NONE when no flow in scope is START or RUN (R153). -/
def State.performed (s : State) (x : Scope) : ScopeKind :=
  if (List.finRange 96).any (s.reshapes x) then x.kind else .none

/-- RESHAPE_REQUEST (R153 to R155). -/
def execReshapeRequest (s : State) : Result :=
  s.live fun s => s.onRequest fun j q =>
    match q with
    | .reshape x a =>
      some ((s.withRate { s.rate with
        flows := Table.tab fun f => if s.reshapes x f then (s.rflow f).reshape a else s.rflow f }).withRunning
          (some { j with scope := some (s.performed x) }))
    | _ => none

/-- A profile with the named fields written (R24). -/
def Profile.write (p : Profile) (w : ProfileWrite) : Profile :=
  { kp := w.kp.getD p.kp, kpShift := w.kpShift.getD p.kpShift, ki := w.ki.getD p.ki,
    kiShift := w.kiShift.getD p.kiShift, positiveClamp := w.positiveClamp.getD p.positiveClamp,
    negativeClamp := w.negativeClamp.getD p.negativeClamp, startClamp := w.startClamp.getD p.startClamp,
    integratorClamp := w.integratorClamp.getD p.integratorClamp, startStep := w.startStep.getD p.startStep,
    startHold := w.startHold.getD p.startHold, windupStop := w.windupStop.getD p.windupStop }

/-- A flow whose integrator is clamped into the range of a lowered integrator clamp (R8, R24). -/
def RateFlow.clampIntegrator (x : RateFlow) (clamp : Nat) : RateFlow :=
  { x with ctl := { x.ctl with integrator := clampInt (-(clamp : Int)) clamp x.ctl.integrator } }

/-- PROFILE_REQUEST (R24, R146): when the integrator clamp is lowered, the integrators of all flows naming the profile are
clamped in the same step. -/
def execProfileRequest (s : State) : Result :=
  s.live fun s => s.onRequest fun j q =>
    match q with
    | .profile i w =>
      let old := Table.get s.rate.profiles i
      let new := old.write w
      some ((s.withRate { s.rate with
        profiles := Table.put s.rate.profiles i new
        flows := Table.tab fun f =>
          if new.integratorClamp < old.integratorClamp ∧ (s.rflow f).view.profile = i then
            (s.rflow f).clampIntegrator new.integratorClamp
          else s.rflow f }).withRunning (some j))
    | _ => none

/-- CAPACITY_REQUEST (R7, R143): the refill rates of the port's flows that are not OFF are lowered to the new capacity. -/
def execCapacityRequest (s : State) : Result :=
  s.live fun s => s.onRequest fun j q =>
    match q with
    | .capacity e c =>
      some ((s.withRate { s.rate with
        capacity := Table.put s.rate.capacity e c
        flows := Table.tab fun f =>
          if s.boundTo e f && !s.isOff f then
            { s.rflow f with ctl := { (s.rflow f).ctl with rate := min (s.rflow f).ctl.rate c } }
          else s.rflow f }).withRunning (some j))
    | _ => none

end Sys2Proof.Machine
end

