-- ==== Sys2Proof/Machine/Reset.lean ====
section
/-! DEFINITION. The power-on reset (R133). -/

namespace Sys2Proof.Machine

/-- Every block at its power-on values with RESET low. Nothing is left on its way between blocks. Lane lock is a
condition of the receive lane and SOLO has not been sampled yet, so both stay, and so do the commands that wait. -/
def State.powerOn (s : State) : State :=
  { State.reset with
    resetLow := true, solo := s.solo, link := powerOnLink s.link.laneLock, pending := s.pending }

/-- POWER_ON_RESET (R133, R134): RESET falls. -/
def execPowerOnReset (s : State) : Result := .next s.powerOn

/-- RESET_RELEASE (R133, R130): RESET rises. The SOLO strap holds the value sampled while RESET was low; with RESET
already high the strap has no effect. -/
def execResetRelease (solo : Bool) (s : State) : Result :=
  .next (if s.resetLow then { s with resetLow := false, solo := solo } else s)

end Sys2Proof.Machine
end

