-- ==== Sys2Proof/Machine/Timer.lean ====
section
/-! DEFINITION. The Epoch Timer (R25, R26). -/

namespace Sys2Proof.Machine

/-- The timer at an expiry: the epoch number wraps, and a pending period governs from here on (R26). -/
def EpochTimer.expire (t : EpochTimer) : EpochTimer :=
  { period := t.pendingPeriod.getD t.period, pendingPeriod := none, epoch := t.epoch + 1 }

/-- EPOCH_EXPIRY (R25): the timer ends an epoch and delivers an expiry to each of the eight arbiters. -/
def execEpochExpiry (s : State) : Result :=
  s.live fun s =>
    (s.withTimer s.timer.expire).withArbiters
      (Table.tab fun e => { s.arb e with expiries := (s.arb e).expiries + 1 })

/-- The timer when it takes an accepted EPOCH_SET: a code equal to the period in progress withdraws a waiting one,
and a different code replaces it (R26). -/
def EpochTimer.request (t : EpochTimer) (p : Period) : EpochTimer :=
  { t with pendingPeriod := if p = t.period then none else some p }

/-- EPOCH_SET_REQUEST (R26, R147). -/
def execEpochSetRequest (s : State) : Result :=
  s.live fun s => s.onRequest fun j q =>
    match q with
    | .epochSet p => some ((s.withTimer (s.timer.request p)).withRunning (some j))
    | _ => none

end Sys2Proof.Machine
end

