-- ==== Sys2Proof/Machine/Dispatch.lean ====
section
/-! DEFINITION. What each command of the block does to the state, one arm per row of the opcode table. -/

namespace Sys2Proof.Machine

def exec (i : Instr) (s : State) : Host.Outcome State Fault Refusal :=
  match i with
  | .powerOnReset => Sys2Proof.Machine.execPowerOnReset s
  | .resetRelease solo => Sys2Proof.Machine.execResetRelease solo s
  | .epochExpiry => Sys2Proof.Machine.execEpochExpiry s
  | .arbiterEpochExpiry e => Sys2Proof.Machine.execArbiterEpochExpiry e s
  | .tallyArrival e => Sys2Proof.Machine.execTallyArrival e s
  | .tallyComputation => Sys2Proof.Machine.execTallyComputation s
  | .refillSet e => Sys2Proof.Machine.execRefillSet e s
  | .laneLockGain => Sys2Proof.Machine.execLaneLockGain s
  | .laneLockLoss => Sys2Proof.Machine.execLaneLockLoss s
  | .recordCheckFailure r => Sys2Proof.Machine.execRecordCheckFailure r s
  | .unknownKindRecord r => Sys2Proof.Machine.execUnknownKindRecord r s
  | .backlog r => Sys2Proof.Machine.execBacklog r s
  | .backlogApply e => Sys2Proof.Machine.execBacklogApply e s
  | .done r => Sys2Proof.Machine.execDone r s
  | .doneMatch e => Sys2Proof.Machine.execDoneMatch e s
  | .tstatRoute r => Sys2Proof.Machine.execTstatRoute r s
  | .tstat e => Sys2Proof.Machine.execTstat e s
  | .linkLossRequest e => Sys2Proof.Machine.execLinkLossRequest e s
  | .shutdownRequest e => Sys2Proof.Machine.execShutdownRequest e s
  | .grantIssue e => Sys2Proof.Machine.execGrantIssue e s
  | .linkRecordSend e => Sys2Proof.Machine.execLinkRecordSend e s
  | .retirementReport e => Sys2Proof.Machine.execRetirementReport e s
  | .faultReport src => Sys2Proof.Machine.execFaultReport src s
  | .eventPost src p => Sys2Proof.Machine.execEventPost src p s
  | .push p bytes => Sys2Proof.Machine.execPush p bytes s
  | .pull p clocked => Sys2Proof.Machine.execPull p clocked s
  | .portClear p => Sys2Proof.Machine.execPortClear p s
  | .commandTake => Sys2Proof.Machine.execCommandTake s
  | .commandEnd => Sys2Proof.Machine.execCommandEnd s
  | .unknownCommand => Sys2Proof.Machine.execUnknownCommand s
  | .flowSet => Sys2Proof.Machine.execFlowSet s
  | .flowModeEnable => Sys2Proof.Machine.execFlowModeEnable s
  | .flowModeDisable => Sys2Proof.Machine.execFlowModeDisable s
  | .flowRead => Sys2Proof.Machine.execFlowRead s
  | .portSet => Sys2Proof.Machine.execPortSet s
  | .portRead => Sys2Proof.Machine.execPortRead s
  | .hostportSet => Sys2Proof.Machine.execHostportSet s
  | .profileSet => Sys2Proof.Machine.execProfileSet s
  | .epochSet => Sys2Proof.Machine.execEpochSet s
  | .reshapeRestart => Sys2Proof.Machine.execReshapeRestart s
  | .reshapeFreeze => Sys2Proof.Machine.execReshapeFreeze s
  | .reshapeThaw => Sys2Proof.Machine.execReshapeThaw s
  | .fence => Sys2Proof.Machine.execFence s
  | .fenceDrain => Sys2Proof.Machine.execFenceDrain s
  | .arbiterRead => Sys2Proof.Machine.execArbiterRead s
  | .reserveLock => Sys2Proof.Machine.execReserveLock s
  | .reserveUnlock => Sys2Proof.Machine.execReserveUnlock s
  | .tripClear => Sys2Proof.Machine.execTripClear s
  | .tripClearRequest => Sys2Proof.Machine.execTripClearRequest s
  | .faultRead => Sys2Proof.Machine.execFaultRead s
  | .faultClear => Sys2Proof.Machine.execFaultClear s
  | .faultClearAll => Sys2Proof.Machine.execFaultClearAll s
  | .eventMask => Sys2Proof.Machine.execEventMask s
  | .eventAck => Sys2Proof.Machine.execEventAck s
  | .releaseRequest => Sys2Proof.Machine.execReleaseRequest s
  | .flowTakeRequest => Sys2Proof.Machine.execFlowTakeRequest s
  | .boundRequest => Sys2Proof.Machine.execBoundRequest s
  | .flowConfigRequest => Sys2Proof.Machine.execFlowConfigRequest s
  | .targetPortRequest => Sys2Proof.Machine.execTargetPortRequest s
  | .startEntry => Sys2Proof.Machine.execStartEntry s
  | .offEntry => Sys2Proof.Machine.execOffEntry s
  | .clearingRequest => Sys2Proof.Machine.execClearingRequest s
  | .reshapeRequest => Sys2Proof.Machine.execReshapeRequest s
  | .profileRequest => Sys2Proof.Machine.execProfileRequest s
  | .capacityRequest => Sys2Proof.Machine.execCapacityRequest s
  | .portRequest => Sys2Proof.Machine.execPortRequest s
  | .monitorRequest => Sys2Proof.Machine.execMonitorRequest s
  | .epochSetRequest => Sys2Proof.Machine.execEpochSetRequest s
  | .hostportRequest => Sys2Proof.Machine.execHostportRequest s
  | .pullSelectorByte p => Sys2Proof.Machine.execPullSelectorByte p s

end Sys2Proof.Machine
end

