-- ==== Sys2Proof/Safety.lean ====
section
/-! DEFINITION. The words in which claims about the block are made: its parts and frames, the situations in which a
row acts, and the invariants of its state. -/

namespace Sys2Proof.Safety

open Sys2Proof.Machine

/-! ## Parts and frames -/

/-- The parts of the state, small enough that a row changes few of them. -/
inductive Part where
  | resetLine
  | solo
  | timer
  /-- The fabric link state and the two counts of R170. -/
  | linkState
  | laneLock
  | hostViews
  | flowPortViews
  | waiting (e : TargetPort)
  | sent
  | linkReports
  | linkPosts
  | monitor (e : TargetPort)
  | arbiter (e : TargetPort)
  /-- What the arbiters hold for a flow. -/
  | held (f : Flow)
  /-- What the Rate Engine holds for a flow. -/
  | rateFlow (f : Flow)
  | profiles
  | capacities
  | tallyQueue
  | rateReports
  | flowConfigs
  | portConfigs
  | hostConfigs
  | mgmt (p : MPort)
  | running
  | preference
  | lock
  | consent
  | executorPosts
  | faultTable
  | overflow
  | causes (p : MPort)
  | mask (p : MPort)
  | pending
deriving DecidableEq, Repr

/-- Whether a part is the same in two states. -/
def Part.same (p : Part) (s t : State) : Prop :=
  match p with
  | .resetLine => t.resetLow = s.resetLow
  | .solo => t.solo = s.solo
  | .timer => t.timer = s.timer
  | .linkState => t.link.up = s.link.up ∧ t.link.failCount = s.link.failCount ∧ t.link.goodCount = s.link.goodCount
  | .laneLock => t.link.laneLock = s.link.laneLock
  | .hostViews => t.link.hosts = s.link.hosts
  | .flowPortViews => t.link.flowPort = s.link.flowPort
  | .waiting e => Table.get t.link.waiting e = Table.get s.link.waiting e
  | .sent => t.link.sent = s.link.sent
  | .linkReports => t.link.reports = s.link.reports
  | .linkPosts => t.link.posts = s.link.posts
  | .monitor e => t.mon e = s.mon e
  | .arbiter e => t.arb e = s.arb e
  | .held f => t.flow f = s.flow f
  | .rateFlow f => t.rflow f = s.rflow f
  | .profiles => t.rate.profiles = s.rate.profiles
  | .capacities => t.rate.capacity = s.rate.capacity
  | .tallyQueue => t.rate.queue = s.rate.queue
  | .rateReports => t.rate.reports = s.rate.reports
  | .flowConfigs => t.cmd.flows = s.cmd.flows
  | .portConfigs => t.cmd.ports = s.cmd.ports
  | .hostConfigs => t.cmd.hosts = s.cmd.hosts
  | .mgmt p => t.mgmt p = s.mgmt p
  | .running => t.cmd.running = s.cmd.running
  | .preference => t.cmd.preference = s.cmd.preference
  | .lock => t.cmd.lockClosed = s.cmd.lockClosed
  | .consent => t.cmd.consent = s.cmd.consent
  | .executorPosts => t.cmd.posts = s.cmd.posts
  | .faultTable => t.unit.table = s.unit.table
  | .overflow => t.unit.overflow = s.unit.overflow
  | .causes p => t.unit.pending.get p = s.unit.pending.get p
  | .mask p => t.unit.mask.get p = s.unit.mask.get p
  | .pending => t.pending = s.pending

/-- The frame of a row: every part outside a list is the same after it. -/
def changesOnly (s t : State) (touched : List Part) : Prop := ∀ p, p ∉ touched → p.same s t

/-- What the arbiters hold, flow by flow. -/
def allHeld : List Part := (List.finRange 96).map .held
/-- What the Rate Engine holds, flow by flow. -/
def allRateFlows : List Part := (List.finRange 96).map .rateFlow
/-- Every arbiter. -/
def allArbiters : List Part := (List.finRange 8).map .arbiter
/-- Every Port Monitor. -/
def allMonitors : List Part := (List.finRange 8).map .monitor
/-- The records that every arbiter has waiting at the Link Interface. -/
def allWaiting : List Part := (List.finRange 8).map .waiting

/-! ## Situations -/

/-- The part takes events (R133). -/
abbrev Live (s : State) : Prop := s.resetLow = false

/-- A command in execution has sent a request that no block has taken yet (R126). -/
abbrev Asks (s : State) (j : Running) (q : Request) (rest : List Request) : Prop :=
  s.resetLow = false ∧ s.cmd.running = some j ∧ j.todo = q :: rest

/-- The block before which a request stood has taken it: the command goes on with the rest. -/
abbrev Taken (t : State) (j : Running) (rest : List Request) : Prop :=
  t.cmd.running = some { j with todo := rest }

/-- A port has a takeable command (R124). -/
abbrev Ready (m : MgmtPort) : Prop :=
  m.commands ≠ [] ∧ m.fence = none ∧ m.responses.length + (if m.promised then 1 else 0) < 16

/-- The executor looks and finds command record `r` at the head of port `p`'s queue to be the one to take (R125). -/
abbrev Offers (s : State) (p : MPort) (r : CommandRecord) : Prop :=
  s.resetLow = false ∧ s.cmd.running = none ∧ Ready (s.mgmt p) ∧ (s.mgmt p).commands.head? = some r ∧
  (Ready (s.mgmt p.other) → s.cmd.preference = p)

/-- Command record `r` of port `p` was taken and answered in the same step (R126, R127, R129). -/
abbrev AnsweredAtOnce (s t : State) (p : MPort) (r : CommandRecord) (status : Status) : Prop :=
  t.mgmt p =
    { s.mgmt p with
      commands := (s.mgmt p).commands.tail
      responses := (s.mgmt p).responses ++
        [{ tag := r[1], kind := r[0], status := status, scope := none, payload := .absent }]
      promised := false } ∧
  t.cmd.running = none ∧ t.cmd.preference = p.other

/-- Command record `r` of port `p` was taken, and it is in execution with these requests to send. -/
abbrev Sending (s t : State) (p : MPort) (r : CommandRecord) (status : Status) (todo : List Request)
    (commit : Option Commit) (payload : Payload) (notify : Bool) : Prop :=
  t.mgmt p = { s.mgmt p with commands := (s.mgmt p).commands.tail, promised := true } ∧
  t.cmd.running =
    some { port := p, tag := r[1], kind := r[0], todo := todo, commit := commit, status := status, scope := none,
           payload := payload, notify := notify, drain := [] } ∧
  t.cmd.preference = p.other

/-- A response to a command from a port with management record `m`: it fills the promised slot, or is discarded (R132). -/
def answered (m : MgmtPort) (r : Response) : MgmtPort :=
  if m.promised then { m with responses := m.responses ++ [r], promised := false } else m

/-- Every Port Monitor has taken its link-loss requests (R117). -/
abbrev LossTaken (s : State) : Prop := ∀ e, MonitorMsg.linkLoss ∉ (s.mon e).inbox

/-- From state `s` these rows of the Port Monitors, each of a port that still has a link-loss request to take, lead to `t`. -/
def TakesLosses : List Instr → State → State → Prop
  | [], s, t => t = s
  | i :: rest, s, t =>
    ∃ e u, (i = .tstat e ∨ i = .linkLossRequest e) ∧ .linkLoss ∈ (s.mon e).inbox ∧ exec i s = .next u ∧
      TakesLosses rest u t

/-- A record that passes its check is handled, and every monitor has taken its link-loss requests before: the link is UP, or
this is the fourth good record in a row (R170; log entry 23). A fourth record that finds a request untaken is another case:
the monitors take it first, in the same event (log entry 28). -/
abbrev Handles (s : State) : Prop :=
  s.resetLow = false ∧ s.link.laneLock = true ∧ (s.link.up = true ∨ (4 ≤ s.link.goodCount + 1 ∧ LossTaken s))

/-- The link state and counts after a handled record (R170). -/
abbrev LinkUpAfter (s t : State) : Prop :=
  t.link.up = true ∧ t.link.failCount = 0 ∧ t.link.goodCount = if s.link.up then s.link.goodCount else 0

/-- The fabric link has gone DOWN (R170), and every port is disabled at once (R42). -/
abbrev LinkLost (s t : State) : Prop :=
  t.link.up = false ∧ t.link.failCount = 0 ∧ t.link.goodCount = 0 ∧
  (∀ e, Table.get t.link.waiting e = []) ∧
  (∀ e, t.mon e = { s.mon e with enable := false, inbox := (s.mon e).inbox ++ [.linkLoss] }) ∧
  t.link.posts = s.link.posts ++ [.toBoth .linkDown]

/-- Records handed to the Link Interface wait there, or are discarded while the link is DOWN (R170). -/
def handedOn (s : State) (e : TargetPort) (rs : List OutRecord) : List OutRecord :=
  if s.link.up then Table.get s.link.waiting e ++ rs else Table.get s.link.waiting e

/-- The grant in a slot, if the slot is busy. -/
def grantAt (s : State) (e : TargetPort) (n : Slot) : Option Grant := (Table.get (s.arb e).slots n).grant

/-- The tag of the grant in a slot (R69). -/
def tagAt (s : State) (e : TargetPort) (n : Slot) : GrantTag :=
  { port := e, slot := n, generation := (Table.get (s.arb e).slots n).generation }

/-- A flow is bound to a port at its arbiter (R30). -/
abbrev Holds (s : State) (e : TargetPort) (f : Flow) : Prop := (s.flow f).holder = some e

/-- A flow is OFF (R17). -/
abbrev Off (s : State) (f : Flow) : Prop := (s.rflow f).ctl.state = .off

/-- The arbiter of a port finds a flow tripped (R16). -/
abbrev TrippedAt (s : State) (e : TargetPort) (f : Flow) : Prop :=
  (s.flow f).view.tripEnable = true ∧ (s.mon e).tripFlag = true

/-! ### Grants (R70 to R74) -/

/-- The grant size of a flow (R71). -/
def size (s : State) (e : TargetPort) (f : Flow) : Nat :=
  min (min ((s.flow f).demand.backlog - (s.flow f).demand.outstanding) (s.flow f).demand.balance)
    (min (s.arb e).view.maxGrant (s.arb e).budget)

/-- Eligibility (R70, R71). -/
abbrev Eligible (s : State) (e : TargetPort) (f : Flow) : Prop :=
  Holds s e f ∧ (s.mon e).enable = true ∧ (s.mon e).linkUp = true ∧ ¬ Off s f ∧ ¬ TrippedAt s e f ∧
  (s.flow f).view.urgency.val ≤ (s.arb e).view.classMask ∧
  (s.flow f).demand.outstanding < (s.flow f).demand.backlog ∧ 0 < (s.flow f).demand.balance ∧
  ((s.arb e).view.minGrant ≤ size s e f ∨
    ((s.flow f).demand.flush = true ∧
      size s e f = (s.flow f).demand.backlog - (s.flow f).demand.outstanding ∧ 1 ≤ size s e f))

/-- The free slots of a port's arbiter, in slot order. -/
def freeSlots (s : State) (e : TargetPort) : List Slot := (List.finRange 8).filter fun n => (grantAt s e n).isNone

/-- A candidate: an eligible flow for which a usable slot exists (R72). -/
abbrev Candidate (s : State) (e : TargetPort) (f : Flow) : Prop :=
  Eligible s e f ∧
  if (s.flow f).view.urgency = 0 then 0 < (freeSlots s e).length
  else (s.arb e).view.urgentSlots < (freeSlots s e).length

/-- How far a flow lies behind a rotation pointer in the search of R74. -/
def behind (pointer f : Flow) : Nat := (f.val + 95 - pointer.val) % 96

/-- The candidate that is granted: of the lowest class, and first behind that class's pointer (R73, R74). -/
abbrev Chosen (s : State) (e : TargetPort) (f : Flow) : Prop :=
  Candidate s e f ∧
  ∀ g, Candidate s e g →
    (s.flow f).view.urgency < (s.flow g).view.urgency ∨
    ((s.flow f).view.urgency = (s.flow g).view.urgency ∧
      behind (Table.get (s.arb e).rotation (s.flow f).view.urgency) f ≤
        behind (Table.get (s.arb e).rotation (s.flow f).view.urgency) g)

/-! ### Grants that end together -/

/-- The slots of arbiter `e` that pass a test, in slot order, with their grants. -/
def slotsWhere (s : State) (e : TargetPort) (test : Grant → Bool) : List (Slot × Grant) :=
  (List.finRange 8).filterMap fun n => (grantAt s e n).bind fun g => if test g then some (n, g) else none

/-- Whether an expiry expires a grant: its raised age reaches the lifetime (R79). -/
def ages (s : State) (e : TargetPort) (g : Grant) : Bool := (s.arb e).view.lifetime ≤ g.age + 1

/-- The remaining cells of those among some grants that belong to a flow. -/
def cellsOf (gs : List (Slot × Grant)) (f : Flow) : Nat :=
  ((gs.filter fun x => x.2.flow = f).map fun x => x.2.remaining).sum

/-- How many of some grants belong to a flow. -/
def grantsOf (gs : List (Slot × Grant)) (f : Flow) : Nat := (gs.filter fun x => x.2.flow = f).length

/-! ### Completions (R98) -/

/-- The oldest record passed to an arbiter is this completion (R97). -/
abbrev Completes (s : State) (e : TargetPort) (tag : GrantTag) (k : Nat) (endMark : Bool) (rest : List ArbiterMsg) : Prop :=
  s.resetLow = false ∧ (s.arb e).inbox = .done tag k endMark :: rest

/-- The tag of a completion matches an outstanding grant: the slot is busy under the tag's generation (R98). -/
abbrev Matches (s : State) (e : TargetPort) (tag : GrantTag) (g : Grant) : Prop :=
  grantAt s e tag.slot = some g ∧ (Table.get (s.arb e).slots tag.slot).generation = tag.generation

/-- An arbiter after the grant in a slot has retired on a completion: the slot is free with its generation kept, and the
retirement report is sent (R82, R83). -/
def retiredAt (s : State) (e : TargetPort) (n : Slot) (rest : List ArbiterMsg) : Arbiter :=
  { s.arb e with
    inbox := rest
    slots := Table.put (s.arb e).slots n { generation := (Table.get (s.arb e).slots n).generation, grant := none }
    toExecutor := (s.arb e).toExecutor ++ [.retired (tagAt s e n)] }

/-! ### Drain sets (R83, R159) -/

/-- A port's record after retired tags have left the drain set of its waiting fence: a fence that this empties is answered
DONE in its promised slot and removed. -/
def drained (m : MgmtPort) (tags : List GrantTag) : MgmtPort :=
  match m.fence with
  | some x =>
    if ∀ y ∈ x.drain, y ∉ tags then m
    else if ∀ y ∈ x.drain, y ∈ tags then
      answered { m with fence := none } { tag := x.tag, kind := x.kind, status := .done, scope := none, payload := .absent }
    else { m with fence := some { x with drain := x.drain.filter fun y => y ∉ tags } }
  | none => m

/-- What port `p`'s waiting fence posts when retired tags leave its drain set: FENCE_DONE to its port, if that empties the set
and notify is yes. -/
def fencePosts (m : MgmtPort) (p : MPort) (tags : List GrantTag) : List Posting :=
  match m.fence with
  | some x => if x.drain ≠ [] ∧ (∀ y ∈ x.drain, y ∈ tags) ∧ x.notify = true then [.toPort p .fenceDone] else []
  | none => []

/-- Retired tags have left every drain set, those of the waiting fences and the one that a FENCE in execution captures; port
A's posting standing before port B's is the model's choice (log entry 7). -/
abbrev Drained (s t : State) (tags : List GrantTag) : Prop :=
  (∀ p, t.mgmt p = drained (s.mgmt p) tags) ∧
  t.cmd.posts = s.cmd.posts ++ (fencePosts (s.mgmt .a) .a tags ++ fencePosts (s.mgmt .b) .b tags) ∧
  t.cmd.running = s.cmd.running.map fun j => { j with drain := j.drain.filter fun y => y ∉ tags }

/-! ### Messages to the Fault and Event Unit -/

/-- Whether a posting names a management port, alone or with the other one (R165). -/
def postedTo (x : Posting) (p : MPort) : Bool :=
  match x with
  | .toBoth _ => true
  | .toPort q _ => q = p

/-- The cause that a posting carries. -/
def causeOf : Posting → Cause
  | .toBoth c => c
  | .toPort _ c => c

/-- The part that holds what a block has sent the unit. -/
def sourcePart : Source → List Part
  | .link => [.linkReports, .linkPosts]
  | .arbiter e => [.arbiter e]
  | .monitor e => [.monitor e]
  | .rate => [.rateReports]
  | .executor => [.executorPosts]

/-- A set of causes with FAULT in it, at a port that is fitted; a port that is not keeps its set (R130, R163). -/
def withFault (s : State) (p : MPort) : CauseSet :=
  if s.solo = true ∧ p = .b then s.unit.pending.get p else { s.unit.pending.get p with fault := true }

/-! ### Commands and their fields (R136, R137, R142) -/

/-- The configuration that a FLOW_SET leaves (R136, R137). -/
def flowAfter (w : FlowWrite) (c : FlowConfig) : FlowConfig :=
  let floor := (w.floor.map fun v => min v 16383).getD c.floor
  let ceiling := (w.ceiling.map fun v => min v 16383).getD c.ceiling
  { port := w.port.getD c.port
    group := (w.group.map fun v => ⟨min v 7, by omega⟩).getD c.group
    urgency := (w.urgency.map fun v => ⟨min v 7, by omega⟩).getD c.urgency
    weight := (w.weight.map fun v => max 1 (min v 255)).getD c.weight
    floor := floor, ceiling := max floor ceiling
    burstCap := (w.burstCap.map fun v => max 16 (min v 65535)).getD c.burstCap
    profile := w.profile.getD c.profile
    tripEnable := w.tripEnable.getD c.tripEnable }

/-- Whether a FLOW_SET writes a value that differs from the one it carries, or raises a ceiling (R136, R137). -/
def flowClamped (w : FlowWrite) (c : FlowConfig) : Bool :=
  w.group.any (7 < ·) || w.urgency.any (7 < ·) || w.weight.any (fun v => v < 1 || 255 < v) || w.floor.any (16383 < ·) ||
  w.ceiling.any (16383 < ·) || w.burstCap.any (fun v => v < 16 || 65535 < v) ||
  (w.ceiling.map fun v => min v 16383).getD c.ceiling < (w.floor.map fun v => min v 16383).getD c.floor

/-- The configuration that a PORT_SET leaves (R136, R142). -/
def portAfter (w : PortWrite) (c : PortConfig) : PortConfig :=
  let capacity := (w.capacity.map fun v => max 16 (min v 16383)).getD c.capacity
  { capacity := capacity
    reserve := (w.reserve.map fun v => min v capacity).getD c.reserve
    maxGrant := (w.maxGrant.map fun v => max 1 (min v 1024)).getD c.maxGrant
    minGrant := (w.minGrant.map fun v => max 1 (min v 64)).getD c.minGrant
    lifetime := (w.lifetime.map fun v => max 1 (min v 15)).getD c.lifetime
    urgentSlots := (w.urgentSlots.map fun v => min v 2).getD c.urgentSlots
    classMask := (w.classMask.map fun v => min v 7).getD c.classMask }

/-- Whether a PORT_SET writes a value that differs from the one it carries (R136, R142). -/
def portClamped (w : PortWrite) (c : PortConfig) : Bool :=
  w.capacity.any (fun v => v < 16 || 16383 < v) || w.reserve.any ((portAfter w c).capacity < ·) ||
  w.maxGrant.any (fun v => v < 1 || 1024 < v) || w.minGrant.any (fun v => v < 1 || 64 < v) ||
  w.lifetime.any (fun v => v < 1 || 15 < v) || w.urgentSlots.any (2 < ·) || w.classMask.any (7 < ·) ||
  w.threshold.any (fun v => v < 1 || 4 < v)

/-- What a PROFILE_SET sends (R136, R146). -/
def profileAfter (w : ProfileWrite) : ProfileWrite :=
  { kp := w.kp.map (min · 4095), kpShift := w.kpShift.map (min · 15), ki := w.ki.map (min · 4095)
    kiShift := w.kiShift.map (min · 15), positiveClamp := w.positiveClamp.map (min · 16383)
    negativeClamp := w.negativeClamp.map (min · 16383), startClamp := w.startClamp.map (min · 16383)
    integratorClamp := w.integratorClamp.map (min · 262143), startStep := w.startStep.map fun v => max 1 (min v 16383)
    startHold := w.startHold.map (min · 15), windupStop := w.windupStop }

/-- A PROFILE_SET that names no field. -/
def noProfileField : ProfileWrite :=
  { kp := none, kpShift := none, ki := none, kiShift := none, positiveClamp := none, negativeClamp := none,
    startClamp := none, integratorClamp := none, startStep := none, startHold := none, windupStop := none }

/-- DONE, or CLAMPED (R136). -/
def okStatus (clamped : Bool) : Status := if clamped then .clamped else .done

/-- A command whose status is decided when it is taken: with no request to send it is answered at once, and otherwise it is
in execution with its requests. -/
abbrev Executed (s t : State) (p : MPort) (r : CommandRecord) (status : Status) (todo : List Request) : Prop :=
  if todo = [] then AnsweredAtOnce s t p r status else Sending s t p r status todo none .absent false

/-- A row takes command record `r` of port `p` and sends the first of these requests, and nothing else changes. -/
abbrev Starts (row : Instr) (s : State) (p : MPort) (r : CommandRecord) (status : Status) (todo : List Request)
    (payload : Payload) (notify : Bool) : Prop :=
  ∃ t, exec row s = .next t ∧ Sending s t p r status todo none payload notify ∧
    changesOnly s t [.mgmt p, .running, .preference]

/-- Whether an index or code of a command record is out of range, or its presence set malformed (R129, R152, R172). -/
def outOfRange (r : CommandRecord) : Bool :=
  let presence := r[3].toNat * 256 + r[4].toNat
  match r[0].toNat with
  | 1 => 95 < r[2].toNat || 511 < presence || (presence.testBit 0 && 7 < r[5].toNat) ||
      (presence.testBit 7 && 7 < r[15].toNat / 16)
  | 2 => 95 < r[2].toNat
  | 3 => 95 < r[2].toNat
  | 4 => 7 < r[2].toNat || 511 < presence
  | 5 => 7 < r[2].toNat || 2 < r[3].toNat
  | 6 => 23 < r[2].toNat || 3 < r[3].toNat
  | 7 => 7 < r[2].toNat || (r[3].getLsbD 7 && (r[3].getLsbD 4 || r[3].getLsbD 5 || r[3].getLsbD 6))
  | 8 => 3 < r[2].toNat
  | 9 => 2 < r[3].toNat || 3 < r[2].toNat || (r[2] = 0 && (95 < r[4].toNat || 6 < r[5].toNat)) ||
      ((r[2] = 1 || r[2] = 2) && 7 < r[4].toNat)
  | 13 => 7 < r[2].toNat
  | 14 => 7 < r[2].toNat
  | 15 => 7 < r[2].toNat && r[2] ≠ 255
  | _ => false

/-! ### Command records (R171, R172) -/

/-- A presence set over some fields, the first in bit 0. -/
def presenceOf : List Bool → Nat
  | [] => 0
  | b :: l => (if b then 1 else 0) + 2 * presenceOf l

/-- Record `r` carries a FLOW_SET of these fields; a field that it does not name may hold anything. -/
abbrev CarriesFlowSet (r : CommandRecord) (f : Flow) (w : FlowWrite) : Prop :=
  r[0] = 1 ∧ r[2].toNat = f.val ∧
  r[3].toNat * 256 + r[4].toNat =
    presenceOf [w.port.isSome, w.group.isSome, w.urgency.isSome, w.weight.isSome, w.floor.isSome, w.ceiling.isSome,
      w.burstCap.isSome, w.profile.isSome, w.tripEnable.isSome] ∧
  (∀ x ∈ w.port, r[5].toNat = x.val) ∧ (∀ x ∈ w.group, r[6].toNat = x) ∧ (∀ x ∈ w.urgency, r[7].toNat = x) ∧
  (∀ x ∈ w.weight, r[8].toNat = x) ∧ (∀ x ∈ w.floor, r[9].toNat * 256 + r[10].toNat = x) ∧
  (∀ x ∈ w.ceiling, r[11].toNat * 256 + r[12].toNat = x) ∧ (∀ x ∈ w.burstCap, r[13].toNat * 256 + r[14].toNat = x) ∧
  (∀ x ∈ w.profile, r[15].toNat / 16 = x.val) ∧ (∀ x ∈ w.tripEnable, (x = true ↔ r[15].toNat % 16 ≠ 0))

/-- Record `r` carries a PORT_SET of these fields. -/
abbrev CarriesPortSet (r : CommandRecord) (e : TargetPort) (w : PortWrite) : Prop :=
  r[0] = 4 ∧ r[2].toNat = e.val ∧
  r[3].toNat * 256 + r[4].toNat =
    presenceOf [w.capacity.isSome, w.reserve.isSome, w.maxGrant.isSome, w.minGrant.isSome, w.lifetime.isSome,
      w.urgentSlots.isSome, w.classMask.isSome, w.threshold.isSome, w.enable.isSome] ∧
  (∀ x ∈ w.capacity, r[5].toNat * 256 + r[6].toNat = x) ∧ (∀ x ∈ w.reserve, r[7].toNat * 256 + r[8].toNat = x) ∧
  (∀ x ∈ w.maxGrant, r[9].toNat * 256 + r[10].toNat = x) ∧ (∀ x ∈ w.minGrant, r[11].toNat = x) ∧
  (∀ x ∈ w.lifetime, r[12].toNat = x) ∧ (∀ x ∈ w.urgentSlots, r[13].toNat = x) ∧ (∀ x ∈ w.classMask, r[14].toNat = x) ∧
  (∀ x ∈ w.threshold, r[15].toNat / 16 = x) ∧ (∀ x ∈ w.enable, (x = true ↔ r[15].toNat % 16 ≠ 0))

/-- Record `r` carries a HOSTPORT_SET of these fields. -/
abbrev CarriesHostportSet (r : CommandRecord) (h : HostPort) (w : HostWrite) : Prop :=
  r[0] = 6 ∧ r[2].toNat = h.val ∧ r[3].toNat = presenceOf [w.tagged.isSome, w.limit.isSome] ∧
  (∀ x ∈ w.tagged, (x = true ↔ r[4] ≠ 0)) ∧ (∀ x ∈ w.limit, r[5].toNat * 256 + r[6].toNat = x)

/-- Record `r` carries a PROFILE_SET of these fields, all of section 0 or all of section 1. -/
abbrev CarriesProfileSet (r : CommandRecord) (p : ProfileIx) (w : ProfileWrite) : Prop :=
  r[0] = 7 ∧ r[2].toNat = p.val ∧
  ((r[3].toNat = presenceOf [w.kp.isSome, w.kpShift.isSome, w.ki.isSome, w.kiShift.isSome, w.positiveClamp.isSome,
        w.negativeClamp.isSome, w.startClamp.isSome] ∧
      (∀ x ∈ w.kp, r[4].toNat * 256 + r[5].toNat = x) ∧ (∀ x ∈ w.kpShift, r[6].toNat = x) ∧
      (∀ x ∈ w.ki, r[7].toNat * 256 + r[8].toNat = x) ∧ (∀ x ∈ w.kiShift, r[9].toNat = x) ∧
      (∀ x ∈ w.positiveClamp, r[10].toNat * 256 + r[11].toNat = x) ∧
      (∀ x ∈ w.negativeClamp, r[12].toNat * 256 + r[13].toNat = x) ∧
      (∀ x ∈ w.startClamp, r[14].toNat * 256 + r[15].toNat = x) ∧
      w.integratorClamp = none ∧ w.startStep = none ∧ w.startHold = none ∧ w.windupStop = none) ∨
    (r[3].toNat = 128 + presenceOf [w.integratorClamp.isSome, w.startStep.isSome, w.startHold.isSome, w.windupStop.isSome] ∧
      (∀ x ∈ w.integratorClamp, r[4].toNat * 65536 + r[5].toNat * 256 + r[6].toNat = x) ∧
      (∀ x ∈ w.startStep, r[7].toNat * 256 + r[8].toNat = x) ∧ (∀ x ∈ w.startHold, r[9].toNat = x) ∧
      (∀ x ∈ w.windupStop, (x = true ↔ r[10] ≠ 0)) ∧
      w.kp = none ∧ w.kpShift = none ∧ w.ki = none ∧ w.kiShift = none ∧ w.positiveClamp = none ∧
      w.negativeClamp = none ∧ w.startClamp = none))

/-- The scope kind and values that a RESHAPE record carries (R152). -/
abbrev CarriesScope (r : CommandRecord) (x : Scope) : Prop :=
  match x with
  | .flowset base mask => r[2] = 0 ∧ r[4].toNat = base.val ∧ r[5].toNat = mask ∧ mask ≤ 6
  | .group g => r[2] = 1 ∧ r[4].toNat = g.val
  | .port e => r[2] = 2 ∧ r[4].toNat = e.val
  | .all => r[2] = 3

/-- The code of a RESHAPE action. -/
def actionCode : Action → Nat
  | .restart => 0
  | .freeze => 1
  | .thaw => 2

/-- The code of an epoch period. -/
def periodCode : Period → Nat
  | .us8 => 0
  | .us16 => 1
  | .us32 => 2
  | .us64 => 3

/-- A byte carries a cause set, in the bit order of EVENT_MASK and EVENT_ACK. -/
abbrev CarriesCauses (b : Byte) (x : CauseSet) : Prop :=
  x.fenceDone = b.getLsbD 0 ∧ x.fault = b.getLsbD 1 ∧ x.trip = b.getLsbD 2 ∧ x.portDown = b.getLsbD 3 ∧
  x.linkDown = b.getLsbD 4

/-- Record `r` carries a command, field by field as the table of R172 places them. -/
abbrev Carries (r : CommandRecord) : Command → Prop
  | .flowSet f w => CarriesFlowSet r f w
  | .flowMode f enable => r[0] = 2 ∧ r[2].toNat = f.val ∧ (enable = true ↔ r[3] ≠ 0)
  | .flowRead f => r[0] = 3 ∧ r[2].toNat = f.val
  | .portSet e w => CarriesPortSet r e w
  | .portRead e sect => r[0] = 5 ∧ r[2].toNat = e.val ∧ r[3].toNat = sect.val
  | .hostportSet h w => CarriesHostportSet r h w
  | .profileSet p w => CarriesProfileSet r p w
  | .epochSet p => r[0] = 8 ∧ r[2].toNat = periodCode p
  | .reshape x a => r[0] = 9 ∧ CarriesScope r x ∧ r[3].toNat = actionCode a
  | .fence notify drain => r[0] = 10 ∧ (notify = true ↔ r[2] ≠ 0) ∧ (drain = true ↔ r[3] ≠ 0)
  | .reserveLock => r[0] = 11
  | .reserveUnlock => r[0] = 12
  | .tripClear e => r[0] = 13 ∧ r[2].toNat = e.val
  | .faultRead i => r[0] = 14 ∧ r[2].toNat = i.val
  | .faultClear i => r[0] = 15 ∧ r[2].toNat = i.val
  | .faultClearAll => r[0] = 15 ∧ r[2] = 255
  | .eventMask x => r[0] = 16 ∧ CarriesCauses r[2] x
  | .eventAck x => r[0] = 17 ∧ CarriesCauses r[2] x

/-- The row of the opcode table that a command record's kind names, by its body where a kind has several rows; a RESHAPE whose
action code is out of range has none. -/
def rowOf (r : CommandRecord) : Option Instr :=
  match r[0].toNat with
  | 1 => some .flowSet
  | 2 => some (if r[3] = 0 then .flowModeDisable else .flowModeEnable)
  | 3 => some .flowRead
  | 4 => some .portSet
  | 5 => some .portRead
  | 6 => some .hostportSet
  | 7 => some .profileSet
  | 8 => some .epochSet
  | 9 =>
    match r[3].toNat with
    | 0 => some .reshapeRestart
    | 1 => some .reshapeFreeze
    | 2 => some .reshapeThaw
    | _ => none
  | 10 => some (if r[3] = 0 then .fence else .fenceDrain)
  | 11 => some .reserveLock
  | 12 => some .reserveUnlock
  | 13 => some .tripClear
  | 14 => some .faultRead
  | 15 => some (if r[2] = 255 then .faultClearAll else .faultClear)
  | 16 => some .eventMask
  | 17 => some .eventAck
  | _ => some .unknownCommand

/-! ### Response records (R173) -/

/-- The number in `n` bytes of a record from byte `i` on, the most significant first (R168). -/
def fieldAt (bs : List Byte) (i n : Nat) : Nat := ((bs.drop i).take n).foldl (fun v b => v * 256 + b.toNat) 0

/-- A yes-or-no bit. -/
def bit (b : Bool) : Nat := if b then 1 else 0

/-- The code of a status. -/
def codeOfStatus : Status → Nat
  | .done => 1
  | .clamped => 2
  | .consentHeld => 3
  | .refusedRange => 16
  | .refusedReserve => 17
  | .refusedLocked => 18
  | .refusedBusy => 19
  | .refusedLinkdown => 20
  | .refusedTripped => 21
  | .refusedUnknown => 22

/-- The code of a performed scope. -/
def codeOfScope : Option ScopeKind → Nat
  | some .flowset => 0
  | some .group => 1
  | some .port => 2
  | some .all => 3
  | some .none => 4
  | none => 255

/-- The code of a fault kind. -/
def codeOfFault : FaultKind → Nat
  | .grantExpired => 1
  | .lateDone => 2
  | .overrun => 3
  | .misroute => 4
  | .tagMissing => 5
  | .unboundReport => 6
  | .backlogClamped => 7
  | .badRecord => 8
  | .linkCheck => 9
  | .portDown => 10
  | .tallyMerged => 11

/-- The payload of a FLOW_READ stands in bytes 4 to 31. -/
abbrev FlowLaidOut (bs : List Byte) (x : FlowSnapshot) : Prop :=
  fieldAt bs 4 1 = x.config.port.val * 32 + x.config.urgency.val * 4 + bit x.config.tripEnable * 2 + bit x.tripped ∧
  fieldAt bs 5 1 = x.config.group.val * 32 + x.config.profile.val * 4 + bit x.ctl.frozen * 2 + bit x.demand.flush ∧
  (x.ctl.startCount < 16 →
    fieldAt bs 6 1 =
      (match x.ctl.state with
        | .off => 0
        | .start => 1
        | .run => 2) * 64 +
      (match x.ctl.saturation with
        | .none => 0
        | .high => 1
        | .low => 2) * 16 + x.ctl.startCount) ∧
  fieldAt bs 7 1 = x.config.weight % 256 ∧ fieldAt bs 8 1 = x.demand.grantCount % 256 ∧
  fieldAt bs 9 2 = x.config.floor % 65536 ∧ fieldAt bs 11 2 = x.config.ceiling % 65536 ∧
  fieldAt bs 13 2 = x.config.burstCap % 65536 ∧ fieldAt bs 15 2 = x.ctl.rate % 65536 ∧
  (fieldAt bs 17 3 : Int) = x.ctl.integrator % 16777216 ∧ fieldAt bs 20 2 = x.ctl.lastTarget % 65536 ∧
  (fieldAt bs 22 2 : Int) = x.ctl.lastError % 65536 ∧ fieldAt bs 24 2 = x.demand.backlog % 65536 ∧
  fieldAt bs 26 2 = x.demand.outstanding % 65536 ∧ fieldAt bs 28 2 = x.demand.balance % 65536 ∧
  fieldAt bs 30 2 = x.demand.delivered % 65536

/-- The payload of a PORT_READ of section 0 stands in bytes 4 to 31. -/
abbrev PortLaidOut (bs : List Byte) (x : PortSnapshot) : Prop :=
  fieldAt bs 4 2 = x.config.capacity % 65536 ∧ fieldAt bs 6 2 = x.config.reserve % 65536 ∧
  fieldAt bs 8 2 = x.config.maxGrant % 65536 ∧ fieldAt bs 10 1 = x.config.minGrant % 256 ∧
  fieldAt bs 11 1 = x.config.lifetime % 256 ∧ fieldAt bs 12 1 = x.config.urgentSlots % 256 ∧
  fieldAt bs 13 1 = x.config.classMask % 256 ∧ fieldAt bs 14 2 = x.floorSum % 65536 ∧
  (x.condition.level < 4 → x.condition.threshold < 8 →
    fieldAt bs 16 1 = bit x.condition.enable * 128 + bit x.condition.linkUp * 64 + x.condition.level * 16 +
      x.condition.threshold * 2 + bit x.condition.tripFlag) ∧
  fieldAt bs 17 2 = x.budget % 65536 ∧ bs.drop 19 = List.replicate 13 0

/-- One slot of a PORT_READ of section 1 or 2 stands in seven bytes from byte `i` on. -/
abbrev SlotLaidOut (bs : List Byte) (i : Nat) (x : GrantSlot) : Prop :=
  match x.grant with
  | some g =>
    fieldAt bs i 1 = 128 + x.generation.toNat ∧ fieldAt bs (i + 1) 1 = g.flow.val ∧ fieldAt bs (i + 2) 1 = g.age % 256 ∧
    fieldAt bs (i + 3) 2 = g.issued % 65536 ∧ fieldAt bs (i + 5) 2 = g.remaining % 65536
  | none => fieldAt bs i 1 = x.generation.toNat ∧ (bs.drop (i + 1)).take 6 = List.replicate 6 0

/-- The payload of a FAULT_READ stands in bytes 4 to 31. -/
abbrev FaultLaidOut (bs : List Byte) (x : Option FaultRecord) (overflow : Bool) : Prop :=
  (match x with
    | some y =>
      fieldAt bs 4 1 = 1 ∧ fieldAt bs 5 1 = codeOfFault y.key.kind ∧
      fieldAt bs 6 1 = (match y.key.flow with
        | some f => f.val
        | none => 255) ∧
      fieldAt bs 7 1 = (match y.key.port with
        | some e => e.val
        | none => 255) ∧
      fieldAt bs 8 4 = y.first.toNat ∧ fieldAt bs 12 4 = y.last.toNat ∧ fieldAt bs 16 1 = y.count % 256
    | none =>
      fieldAt bs 4 1 = 0 ∧ fieldAt bs 5 1 = 0 ∧ fieldAt bs 6 1 = 255 ∧ fieldAt bs 7 1 = 255 ∧ fieldAt bs 8 4 = 0 ∧
      fieldAt bs 12 4 = 0 ∧ fieldAt bs 16 1 = 0) ∧
  fieldAt bs 17 1 = bit overflow ∧ bs.drop 18 = List.replicate 14 0

/-- A payload stands in bytes 4 to 31 of a record, all 0 where it is absent. -/
abbrev PayloadLaidOut (bs : List Byte) : Payload → Prop
  | .absent => bs.length = 32 ∧ bs.drop 4 = List.replicate 28 0
  | .flow x => bs.length = 32 ∧ FlowLaidOut bs x
  | .port x => bs.length = 32 ∧ PortLaidOut bs x
  | .slots xs => xs.length = 4 → bs.length = 32 ∧ ∀ i : Fin 4, ∀ x ∈ xs[i.val]?, SlotLaidOut bs (4 + 7 * i.val) x
  | .fault x overflow => bs.length = 32 ∧ FaultLaidOut bs x overflow

/-- A response stands in the bytes of a record. -/
abbrev LaidOut (bs : List Byte) (r : Response) : Prop :=
  fieldAt bs 0 1 = r.tag.toNat ∧ fieldAt bs 1 1 = r.kind.toNat ∧ fieldAt bs 2 1 = codeOfStatus r.status ∧
  fieldAt bs 3 1 = codeOfScope r.scope ∧ PayloadLaidOut bs r.payload

/-- Whether a reshape scope covers a flow, by the Rate Engine's view (R152, R153). -/
def covers (s : State) (x : Scope) (f : Flow) : Bool :=
  match x with
  | .flowset base mask => f.val / 2 ^ mask = base.val / 2 ^ mask
  | .group g => (s.rflow f).view.group = g
  | .port e => (s.rflow f).view.port = e
  | .all => true

/-! ### Share division (R36 to R39) -/

/-- The tally entry for a flow, where it has one. -/
def entryFor (t : Tally) (f : Flow) : Option TallyEntry := t.entries.find? fun x => x.flow = f

/-- The delivered figure of a flow in a computation; 0 with no entry (R36). -/
def deliveredIn (t : Tally) (f : Flow) : Nat :=
  match entryFor t f with
  | some x => x.delivered
  | none => 0

/-- The Rate Engine finds a flow in service: bound to the tally's port, START or RUN, and not tripped. -/
abbrev Serves (s : State) (t : Tally) (f : Flow) : Prop :=
  (s.rflow f).view.port = t.port ∧ ¬ Off s f ∧
  ¬ ((s.rflow f).view.tripEnable = true ∧ (s.mon t.port).tripFlag = true)

/-- An entry shows its flow competing: demanding, or with cells delivered or grants outstanding (R37). -/
def competes (x : TallyEntry) : Bool := x.demanding || decide (0 < x.delivered) || decide (0 < x.grants)

/-- A flow is in the active set of the computation of a tally (R37). -/
abbrev Active (s : State) (t : Tally) (f : Flow) : Prop := Serves s t f ∧ (entryFor t f).any competes = true

/-- The active set, in flow-index order. -/
def activeFlows (s : State) (t : Tally) : List Flow := (List.finRange 96).filter fun f => Active s t f

/-- A sum over the active set of a computation. -/
def sumActive (s : State) (t : Tally) (value : RateView → Nat) : Nat :=
  ((activeFlows s t).map fun f => value (s.rflow f).view).sum

/-- The target of a flow in a computation (R38, R39). -/
def targetOf (s : State) (t : Tally) (f : Flow) : Nat :=
  min ((s.rflow f).view.floor +
      (Table.get s.rate.capacity t.port - sumActive s t (·.floor)) * (s.rflow f).view.weight / sumActive s t (·.weight))
    (s.rflow f).view.ceiling

/-! ## Invariants -/

/-- R123, R124 and R127: the queues of a port are bounded, and its promise belongs to its command in execution or to its
waiting fence, of which it has not both. -/
abbrev PortQueuesOk (s : State) (p : MPort) : Prop :=
  (s.mgmt p).commands.length ≤ 16 ∧
  (s.mgmt p).responses.length + (if (s.mgmt p).promised then 1 else 0) ≤ 16 ∧
  ((s.mgmt p).fence.isSome → (s.mgmt p).promised = true) ∧
  ((s.mgmt p).promised = true → (s.mgmt p).fence.isSome ∨ ∃ j ∈ s.cmd.running, j.port = p) ∧
  ∀ j ∈ s.cmd.running, j.port = p → (s.mgmt p).fence = none

/-- The invariant of R123 at both ports. -/
abbrev QueuesOk (s : State) : Prop := PortQueuesOk s .a ∧ PortQueuesOk s .b

/-- R130: under SOLO high port B has nothing, is owed nothing and runs nothing; a part held in reset has nothing there
either, since the strap may then be found high. -/
abbrev PortBAbsent (s : State) : Prop :=
  s.solo = true ∨ s.resetLow = true →
    (s.mgmt .b).commands = [] ∧ (s.mgmt .b).responses = [] ∧ (s.mgmt .b).promised = false ∧ (s.mgmt .b).fence = none ∧
    (s.mgmt .b).pulling = none ∧ (s.mgmt .b).miso = [] ∧
    s.cmd.consent.b = false ∧ s.unit.pending.b = noCauses ∧ s.unit.mask.b = allCauses ∧
    ∀ j ∈ s.cmd.running, j.port = .a

/-- R161: no two fault records have the same kind, flow and target port, and each stands for 1 to 255 reports. -/
abbrev FaultTableOk (s : State) : Prop :=
  (∀ i : FaultIx, ∀ x ∈ Table.get s.unit.table i, 1 ≤ x.count ∧ x.count ≤ 255) ∧
  ∀ i k : FaultIx, ∀ x ∈ Table.get s.unit.table i, ∀ y ∈ Table.get s.unit.table k, x.key = y.key → i = k

/-- R30: the entries of a tally stand in flow-index order, no flow twice. -/
abbrev TallyOk (t : Tally) : Prop := (t.entries.map fun x => x.flow.val).Pairwise (· < ·)

/-- R30, R32: every tally, queued or on its way, is well formed; the queue holds at most one for each port, and a tally on
its way comes from the arbiter of its port. -/
abbrev TalliesOk (s : State) : Prop :=
  (s.rate.queue.map fun t => t.port.val).Nodup ∧ (∀ t ∈ s.rate.queue, TallyOk t) ∧
  ∀ e, ∀ t ∈ (s.arb e).tallies, TallyOk t ∧ t.port = e

/-- R29: the cells granted since the last close and the budget left are together within the capacity that the arbiter
holds, unless the budget is spent. -/
abbrev BudgetsOk (s : State) : Prop :=
  ∀ e, (s.arb e).budget = 0 ∨ (s.arb e).granted + (s.arb e).budget ≤ (s.arb e).view.capacity

/-- R170: the counts of the Link Interface are within their ranges; a link that is DOWN holds no failure count and no
unsent record; and there is neither an UP link nor a good count without lane lock or in reset. R117: while the link is UP
no monitor has a link-loss request to take; while it is DOWN the request is the last message to each monitor, or the monitor
has taken it and holds its port DOWN. R108, R111: a port that is enabled has its link UP. -/
abbrev LinkOk (s : State) : Prop :=
  s.link.failCount ≤ 7 ∧ s.link.goodCount ≤ 3 ∧ (s.link.up = true → s.link.goodCount = 0) ∧
  (s.link.up = false → s.link.failCount = 0 ∧ ∀ e, Table.get s.link.waiting e = []) ∧
  (s.link.laneLock = false ∨ s.resetLow = true → s.link.up = false ∧ s.link.goodCount = 0) ∧
  (s.link.up = true → LossTaken s) ∧
  (s.link.up = false → ∀ e, ((s.mon e).inbox = [] ∧ (s.mon e).linkUp = false) ∨
    (s.mon e).inbox.getLast? = some .linkLoss) ∧
  ∀ e, (s.mon e).enable = true → (s.mon e).linkUp = true

/-- The floors of all flow records that name a port, summed. -/
def floorsNaming (flows : Table FlowConfig 96) (e : TargetPort) : Nat :=
  ((List.finRange 96).map fun f =>
    if (Table.get flows f).port = e then (Table.get flows f).floor else 0).sum

/-- R4, R142: floors within ceilings, the floors of a port within its reserve, and its reserve within its capacity. -/
abbrev ReservesHold (x : Executor) : Prop :=
  (∀ f, (Table.get x.flows f).floor ≤ (Table.get x.flows f).ceiling ∧ (Table.get x.flows f).ceiling ≤ 16383) ∧
  ∀ e, floorsNaming x.flows e ≤ (Table.get x.ports e).reserve ∧
    (Table.get x.ports e).reserve ≤ (Table.get x.ports e).capacity

/-- The executor's records as they are once the write that the command in execution still owes is made. -/
def afterCommit (x : Executor) : Executor :=
  match x.running with
  | some j =>
    match j.commit with
    | some (.flow f c) => { x with flows := Table.put x.flows f c }
    | some (.port e c) => { x with ports := Table.put x.ports e c }
    | none => x
  | none => x

/-- R4, R142, also of the write that the command in execution still owes. -/
abbrev ConfigurationOk (s : State) : Prop := ReservesHold s.cmd ∧ ReservesHold (afterCommit s.cmd)

/-- No floor and no reserve differs between two executors. -/
abbrev SameGuarded (x y : Executor) : Prop :=
  (∀ f, (Table.get y.flows f).floor = (Table.get x.flows f).floor) ∧
  ∀ e, (Table.get y.ports e).reserve = (Table.get x.ports e).reserve

/-- R148: with the lock closed, the write that the command in execution still owes changes no floor and no reserve. -/
abbrev LockOk (s : State) : Prop := s.cmd.lockClosed = true → SameGuarded s.cmd (afterCommit s.cmd)

/-- The requests of the command in execution. -/
def todoOf (s : State) : List Request :=
  match s.cmd.running with
  | some j => j.todo
  | none => []

/-- The write that the command in execution still owes. -/
def commitOf (s : State) : Option Commit :=
  match s.cmd.running with
  | some j => j.commit
  | none => none

/-- A request that gives the Rate Engine new configuration. -/
def updatesRate : Request → Bool
  | .bound _ _ => true
  | .capacity _ _ => true
  | _ => false

/-- A request whose refusal ends its command. -/
def mayRefuse : Request → Bool
  | .release _ _ => true
  | .monitor _ _ _ => true
  | .tripClear _ => true
  | _ => false

/-- A request brings the Rate Engine what the executor holds now. -/
def bringsCurrent (x : Executor) : Request → Bool
  | .bound f v => v = rateViewOf (Table.get x.flows f)
  | .capacity e c => c = (Table.get x.ports e).capacity
  | _ => true

/-- A command that still owes its write has the guarding request before it, and sends afterwards what the write changes; one
that owes none brings the Rate Engine what the executor holds, for a flow or for a port, and can no longer be refused. -/
def sendsInOrder (x : Executor) (commit : Option Commit) (todo : List Request) : Bool :=
  match commit with
  | some (.flow f c) => todo = .release f (Table.get x.flows f).port :: flowRequests f (Table.get x.flows f) c
  | some (.port e c) =>
    match todo with
    | .monitor g _ _ :: rest => g = e && rest = portRequests e (Table.get x.ports e) c
    | _ => false
  | none =>
    todo.all (bringsCurrent x) && (!todo.any updatesRate || !todo.any mayRefuse) &&
    (!(todo.any fun q => match q with | .bound _ _ => true | _ => false) ||
      !(todo.any fun q => match q with | .capacity _ _ => true | _ => false))

/-- R2, R138, R143: what the Rate Engine holds of a flow's configuration and of a port's capacity is what the executor
holds, or the command in execution, its own write made, has the request that brings it. -/
abbrev ViewsOk (s : State) : Prop :=
  (∀ f, (s.rflow f).view = rateViewOf (Table.get s.cmd.flows f) ∨
    (commitOf s = none ∧ Request.bound f (rateViewOf (Table.get s.cmd.flows f)) ∈ todoOf s)) ∧
  (∀ e, Table.get s.rate.capacity e = (Table.get s.cmd.ports e).capacity ∨
    (commitOf s = none ∧ Request.capacity e (Table.get s.cmd.ports e).capacity ∈ todoOf s)) ∧
  sendsInOrder s.cmd (commitOf s) (todoOf s) = true

/-- R7, R8: an OFF flow has refill rate 0 and integrator 0; any other has a rate from its floor to the lesser of its ceiling
and its port's capacity; and every integrator is within the clamp of the profile the flow names. -/
abbrev ControllersOk (s : State) : Prop :=
  ∀ f,
    (s.rflow f).view.floor ≤
      min (s.rflow f).view.ceiling (Table.get s.rate.capacity (s.rflow f).view.port) ∧
    (if Off s f then (s.rflow f).ctl.rate = 0 ∧ (s.rflow f).ctl.integrator = 0
     else (s.rflow f).view.floor ≤ (s.rflow f).ctl.rate ∧
       (s.rflow f).ctl.rate ≤ min (s.rflow f).view.ceiling (Table.get s.rate.capacity (s.rflow f).view.port)) ∧
    (s.rflow f).ctl.integrator.natAbs ≤ (Table.get s.rate.profiles (s.rflow f).view.profile).integratorClamp

/-- After every OFF entry still to be taken, the clearing request of its flow follows (R20). -/
def clearsFollow : List Request → Bool
  | .offEntry f :: rest => decide (Request.clearing f ∈ rest) && clearsFollow rest
  | _ :: rest => clearsFollow rest
  | [] => true

/-- A clearing request (R20). -/
def isClearing : Request → Bool
  | .clearing _ => true
  | _ => false

/-- R13: every token balance is at most the burst cap that the arbiter holds, and 0 while the flow is OFF but for the clearing
request still to be taken, which no refusal can take away. -/
abbrev BalancesOk (s : State) : Prop :=
  (∀ f, (s.flow f).demand.balance ≤ (s.flow f).view.burstCap ∧
    (Off s f → (s.flow f).demand.balance = 0 ∨ Request.clearing f ∈ todoOf s)) ∧
  clearsFollow (todoOf s) = true ∧ (!(todoOf s).any isClearing || !(todoOf s).any mayRefuse) = true

/-- The busy slots of every port that hold a grant of a flow. -/
def grantsFor (s : State) (f : Flow) : List Grant :=
  (List.finRange 8).flatMap fun e =>
    (List.finRange 8).filterMap fun n => (grantAt s e n).bind fun g => if g.flow = f then some g else none

/-- A port's fields keep every grant between 1 and 1024 cells (R71, R136). -/
def grantSizesOk (minGrant maxGrant : Nat) : Bool := 1 ≤ minGrant && maxGrant ≤ 1024

/-- A command gives an arbiter grant sizes within their ranges, and a flow that it moves on to a new arbiter has been
given up by the old one; `released` says which flow a request not yet taken makes its arbiter give up. -/
def movesFlows (s : State) (released : Option Flow) : Request → Bool
  | .port _ v => grantSizesOk v.minGrant v.maxGrant
  | .flowTake f _ _ => released = some f || (s.flow f).holder = none
  | _ => true

/-- The take of a flow by its new arbiter (R138). -/
def isTake : Request → Bool
  | .flowTake _ _ _ => true
  | _ => false

/-- The flow whose release the command in execution still waits for; its write is owed until then. -/
def releasing (commit : Option Commit) (todo : List Request) : Option Flow :=
  match commit, todo with
  | some (.flow f _), .release g _ :: _ => if g = f then some f else none
  | _, _ => none

/-- The write that a command still owes keeps grant sizes in range, and for a flow the release stands before it. -/
def commitMovesFlows (commit : Option Commit) (todo : List Request) : Bool :=
  match commit with
  | some (.flow f _) => releasing commit todo = some f
  | some (.port _ c) => grantSizesOk c.minGrant c.maxGrant
  | none => true

/-- R12, R69: a grant is held at the arbiter that holds its flow, with 1 to 1024 cells issued and at least 1 of them left; a
flow's outstanding cells and grant count are those of its grants; and a flow on its way to a new arbiter has none. -/
abbrev GrantsOk (s : State) : Prop :=
  (∀ e n, ∀ g ∈ grantAt s e n, Holds s e g.flow ∧ 1 ≤ g.remaining ∧ g.remaining ≤ g.issued ∧ g.issued ≤ 1024) ∧
  (∀ f, (s.flow f).demand.outstanding = ((grantsFor s f).map (·.remaining)).sum ∧
    (s.flow f).demand.grantCount = (grantsFor s f).length) ∧
  (∀ e, grantSizesOk (s.arb e).view.minGrant (s.arb e).view.maxGrant = true ∧
    grantSizesOk (Table.get s.cmd.ports e).minGrant (Table.get s.cmd.ports e).maxGrant = true) ∧
  (todoOf s).all (movesFlows s (releasing (commitOf s) (todoOf s))) = true ∧ (todoOf s).countP isTake ≤ 1 ∧
  commitMovesFlows (commitOf s) (todoOf s) = true

end Sys2Proof.Safety
end

