-- ==== Sys2Proof/WellFormed.lean ====
section
/-! DEFINITION. Which commands name an event that can occur: a link record that arrives must be of the row's sort, and a
transaction of the row PUSH must not select PULL. Every other operand is well formed by its type. -/

namespace Sys2Proof

/-- Whether a command is well formed (R88, R119, R169). -/
def Instr.wellFormed (i : Instr) : Bool :=
  match i with
  | .recordCheckFailure r => !Machine.checkPasses r
  | .unknownKindRecord r => Machine.checkPasses r && Machine.inboundKind r == .unknown
  | .backlog r => Machine.checkPasses r && Machine.inboundKind r == .backlog
  | .done r => Machine.checkPasses r && Machine.inboundKind r == .done
  | .tstatRoute r => Machine.checkPasses r && Machine.inboundKind r == .tstat
  | .push _ bytes => Machine.selects bytes != some .pull
  | .powerOnReset | .resetRelease _ | .epochExpiry | .arbiterEpochExpiry _ | .tallyArrival _
  | .tallyComputation | .refillSet _ | .laneLockGain | .laneLockLoss | .backlogApply _ | .doneMatch _
  | .tstat _ | .linkLossRequest _ | .shutdownRequest _ | .grantIssue _ | .linkRecordSend _
  | .retirementReport _ | .faultReport _ | .eventPost _ _ | .pull _ _ | .portClear _
  | .commandTake | .commandEnd | .unknownCommand | .flowSet | .flowModeEnable | .flowModeDisable
  | .flowRead | .portSet | .portRead | .hostportSet | .profileSet | .epochSet | .reshapeRestart
  | .reshapeFreeze | .reshapeThaw | .fence | .fenceDrain | .arbiterRead | .reserveLock | .reserveUnlock
  | .tripClear | .tripClearRequest | .faultRead | .faultClear | .faultClearAll | .eventMask | .eventAck
  | .releaseRequest | .flowTakeRequest | .boundRequest | .flowConfigRequest | .targetPortRequest
  | .startEntry | .offEntry | .clearingRequest | .reshapeRequest | .profileRequest | .capacityRequest
  | .portRequest | .monitorRequest | .epochSetRequest | .hostportRequest | .pullSelectorByte _ => true

end Sys2Proof
end

