-- ==== Sys2Proof/Certificates/Slice0/Obligations.lean ====
section
/-! DEFINITION. The statements for the provers. Each names the rules of spec/ that it formalises or rests on; what a statement
says of a value or behaviour that the model chose is marked in its docstring with the log entry. -/

open Sys2Proof Sys2Proof.Machine Sys2Proof.Safety

/-! ## The block as a whole -/

/-- A step runs the command at the front of the queue on the state with the queue's rest, and an empty queue idles (the idle
step is the model's choice, log entry 1). -/
def Obligations.StepRunsFrontCommand : Prop :=
  ∀ (c : Instr) (rest : List Instr) (s : State),
    step { s with pending := c :: rest } = exec c { s with pending := rest } ∧
    step { s with pending := [] } = .next { s with pending := [] }

/-- In the model every command runs in every state to a next state, with the commands that wait unchanged. That no command
faults or is refused is the model's choice (log entry 18), and so is that a row whose event cannot occur in the state answers
a next state (log entry 2). -/
def Obligations.EveryCommandRuns : Prop :=
  ∀ (c : Instr) (s : State), ∃ t, exec c s = .next t ∧ t.pending = s.pending

/-- R133: while RESET is low nothing changes, but for lane lock, which the part does not control (R170); lane lock kept up to
date under reset is the model's reading (log entry 3). -/
def Obligations.ResetLowTakesNothing : Prop :=
  ∀ (c : Instr) (s : State), s.resetLow = true → c ≠ .powerOnReset → (∀ v, c ≠ .resetRelease v) →
    ∃ t, exec c s = .next t ∧
      (c ≠ .laneLockGain → c ≠ .laneLockLoss → t = s) ∧
      (c = .laneLockGain → t.link.laneLock = true) ∧ (c = .laneLockLoss → t.link.laneLock = false) ∧
      changesOnly s t [.laneLock]

/-- The power-on values of R3, R6, R10, R22, R23, R25, R32, R67, R68, R106, R134, R161, R165, R166 and R170, block by
block, at the fall of RESET from any state. That messages on their way are gone, and that lane lock, the SOLO level and the commands
that wait in the model's queue are kept, is the model's reading (log entry 3). That the record last sent is none and the bytes
last shifted out are empty is its choice, since the two fields are its own (log entry 19). -/
def Obligations.PowerOnResetValues : Prop :=
  ∀ s : State, ∃ t, exec .powerOnReset s = .next t ∧
    t.resetLow = true ∧ t.solo = s.solo ∧ t.pending = s.pending ∧
    t.timer = { period := .us16, pendingPeriod := none, epoch := 0 } ∧
    (t.link.up = false ∧ t.link.failCount = 0 ∧ t.link.goodCount = 0 ∧ t.link.laneLock = s.link.laneLock ∧
      t.link.sent = none ∧ t.link.reports = [] ∧ t.link.posts = []) ∧
    (∀ h, Table.get t.link.hosts h = { tagged := false, limit := 65535 } ∧
      Table.get t.cmd.hosts h = { tagged := false, limit := 65535 }) ∧
    (∀ f, Table.get t.cmd.flows f =
        { port := 0, group := 0, urgency := 7, weight := 1, floor := 0, ceiling := 16383, burstCap := 1024, profile := 0,
          tripEnable := false } ∧
      t.rflow f =
        { view := { port := 0, group := 0, weight := 1, floor := 0, ceiling := 16383, profile := 0, tripEnable := false }
          ctl :=
            { state := .off, frozen := false, rate := 0, integrator := 0, lastTarget := 0, lastError := 0,
              saturation := .none, startCount := 0 } } ∧
      t.flow f =
        { holder := some 0, view := { urgency := 7, burstCap := 1024, tripEnable := false }
          demand := { backlog := 0, flush := false, outstanding := 0, grantCount := 0, balance := 0, delivered := 0 } } ∧
      Table.get t.link.flowPort f = 0) ∧
    (∀ p, Table.get t.rate.profiles p =
      { kp := 0, kpShift := 0, ki := 0, kiShift := 0, positiveClamp := 16383, negativeClamp := 16383, startClamp := 16383,
        integratorClamp := 0, startStep := 16383, startHold := 0, windupStop := false }) ∧
    (∀ e, Table.get t.cmd.ports e =
        { capacity := 1024, reserve := 0, maxGrant := 256, minGrant := 8, lifetime := 4, urgentSlots := 0, classMask := 7 } ∧
      t.mon e =
        { enable := false, linkUp := false, level := 0, threshold := 4, tripFlag := false, inbox := [], reports := [],
          posts := [] } ∧
      (∀ n, Table.get (t.arb e).slots n = { generation := 0, grant := none }) ∧
      (∀ k, Table.get (t.arb e).rotation k = 0) ∧ (t.arb e).budget = 1024 ∧ (t.arb e).granted = 0 ∧
      (t.arb e).view =
        { capacity := 1024, maxGrant := 256, minGrant := 8, lifetime := 4, urgentSlots := 0, classMask := 7 } ∧
      Table.get t.rate.capacity e = 1024 ∧ Table.get t.link.waiting e = []) ∧
    (∀ e, (t.arb e).expiries = 0 ∧ (t.arb e).inbox = [] ∧ (t.arb e).refills = [] ∧ (t.arb e).shutdowns = [] ∧
      (t.arb e).tallies = [] ∧ (t.arb e).toExecutor = [] ∧ (t.arb e).reports = []) ∧
    t.rate.queue = [] ∧ t.rate.reports = [] ∧ t.cmd.posts = [] ∧
    (∀ p, (t.mgmt p).commands = [] ∧ (t.mgmt p).responses = [] ∧ (t.mgmt p).promised = false ∧ (t.mgmt p).fence = none ∧
      (t.mgmt p).pulling = none ∧ (t.mgmt p).miso = [] ∧ t.cmd.consent.get p = false ∧
      t.unit.pending.get p =
        { fenceDone := false, fault := false, trip := false, portDown := false, linkDown := false } ∧
      t.unit.mask.get p = { fenceDone := true, fault := true, trip := true, portDown := true, linkDown := true } ∧
      t.eventLine p = false) ∧
    t.cmd.running = none ∧ t.cmd.preference = .a ∧ t.cmd.lockClosed = false ∧
    (∀ i, Table.get t.unit.table i = none) ∧ t.unit.overflow = false

/-- R133, R130: the rise of RESET changes the line and takes the SOLO level sampled under reset; with RESET high already the
strap has no effect; and a reset from any state, released with SOLO low while lane lock holds and no command waits, is
State.reset (SOLO low and lane lock are its choices, log entries 4 and 5, and so is what the model's own fields hold, log entries
19 and 29). -/
def Obligations.ResetReleaseSamplesSolo : Prop :=
  ∀ (s : State) (level : Bool),
    (s.resetLow = true → ∃ t, exec (.resetRelease level) s = .next t ∧ t.resetLow = false ∧ t.solo = level ∧
      changesOnly s t [.resetLine, .solo]) ∧
    (s.resetLow = false → exec (.resetRelease level) s = .next s) ∧
    (s.link.laneLock = true → s.pending = [] → ∃ t, exec .powerOnReset s = .next t ∧
      exec (.resetRelease false) t = .next State.reset)

/-! ## The Epoch Timer and the epoch close -/

/-- R25, R26: at an expiry the epoch number rises by 1 and wraps, a pending period becomes the period, and one expiry is
on its way to each arbiter. That expiries are counted until taken is the model's reading (log entry 7). -/
def Obligations.EpochExpiryAdvancesTimer : Prop :=
  ∀ s : State, Live s → ∃ t, exec .epochExpiry s = .next t ∧
    t.timer.epoch.toNat = (s.timer.epoch.toNat + 1) % 4294967296 ∧
    (∀ p, s.timer.pendingPeriod = some p → t.timer.period = p) ∧
    (s.timer.pendingPeriod = none → t.timer.period = s.timer.period) ∧ t.timer.pendingPeriod = none ∧
    (∀ e, t.arb e = { s.arb e with expiries := (s.arb e).expiries + 1 }) ∧
    changesOnly s t (.timer :: allArbiters)

/-- R26, R147: the timer takes an EPOCH_SET. A code other than the period in progress is the pending period from here on, and
the code of the period in progress leaves none pending; period and epoch number stay. -/
def Obligations.EpochSetChangesPendingPeriod : Prop :=
  ∀ (s : State) (j : Running) (p : Period) (rest : List Request), Asks s j (.epochSet p) rest →
    ∃ t, exec .epochSetRequest s = .next t ∧ Taken t j rest ∧
      (p ≠ s.timer.period → t.timer.pendingPeriod = some p) ∧ (p = s.timer.period → t.timer.pendingPeriod = none) ∧
      t.timer.period = s.timer.period ∧ t.timer.epoch = s.timer.epoch ∧
      changesOnly s t [.timer, .running]

/-- R27 to R30, R79, R82, R83: an arbiter takes an expiry whole: ages, expiries with their CANCEL, fault and retirement
reports in slot order, the expired tags gone from every drain set, the budget, and the tally with the delivered counts set
to 0. That a fence which the expiry empties completes in the same event is the model's reading (log entry 24), that the
retirement reports stand in slot order is its choice (log entry 26), and expiries are counted until taken (log entry 7). -/
def Obligations.ArbiterTakesExpiryWhole : Prop :=
  ∀ (s : State) (e : TargetPort), Live s → 0 < (s.arb e).expiries →
    ∃ t, exec (.arbiterEpochExpiry e) s = .next t ∧
      (∀ n, (Table.get (t.arb e).slots n).generation = (Table.get (s.arb e).slots n).generation ∧
        grantAt t e n =
          (grantAt s e n).bind fun g => if (s.arb e).view.lifetime ≤ g.age + 1 then none else some { g with age := g.age + 1 }) ∧
      (t.arb e).budget = (s.arb e).view.capacity ∧ (t.arb e).granted = 0 ∧
      (t.arb e).expiries + 1 = (s.arb e).expiries ∧
      (t.arb e).toExecutor =
        (s.arb e).toExecutor ++ (slotsWhere s e (ages s e)).map (fun x => ExecutorMsg.retired (tagAt s e x.1)) ∧
      (t.arb e).reports = (s.arb e).reports ++ (slotsWhere s e (ages s e)).map (fun x =>
        ({ kind := .grantExpired, flow := some x.2.flow, port := some e } : FaultReport)) ∧
      Table.get t.link.waiting e = handedOn s e ((slotsWhere s e (ages s e)).map fun x =>
        .cancel (tagAt s e x.1) x.2.flow x.2.remaining) ∧
      (∀ f, t.flow f =
        { s.flow f with
          demand :=
            { (s.flow f).demand with
              outstanding := (s.flow f).demand.outstanding - cellsOf (slotsWhere s e (ages s e)) f
              grantCount := (s.flow f).demand.grantCount - grantsOf (slotsWhere s e (ages s e)) f
              delivered := if Holds s e f then 0 else (s.flow f).demand.delivered } }) ∧
      (t.arb e).tallies = (s.arb e).tallies ++
        [{ port := e
           entries := ((List.finRange 96).filter fun f => (s.flow f).holder = some e).map fun f =>
             { flow := f, delivered := (s.flow f).demand.delivered
               demanding := (t.flow f).demand.outstanding < (s.flow f).demand.backlog
               grants := (t.flow f).demand.grantCount } }] ∧
      (t.arb e).rotation = (s.arb e).rotation ∧ (t.arb e).view = (s.arb e).view ∧ (t.arb e).inbox = (s.arb e).inbox ∧
      (t.arb e).refills = (s.arb e).refills ∧ (t.arb e).shutdowns = (s.arb e).shutdowns ∧
      Drained s t ((slotsWhere s e (ages s e)).map fun x => tagAt s e x.1) ∧
      changesOnly s t (.arbiter e :: .waiting e :: .mgmt .a :: .mgmt .b :: .running :: .executorPosts :: allHeld)

/-! ## The Rate Engine -/

/-- R32, R33: a tally joins the tail of the queue when its port has none there, and otherwise is merged, flow by flow, into
the queued one of its port in that one's place, with TALLY_MERGED reported. -/
def Obligations.TallyJoinsOrMerges : Prop :=
  ∀ (s : State) (e : TargetPort) (new : Tally) (later : List Tally), Live s → (s.arb e).tallies = new :: later →
    ∃ t, exec (.tallyArrival e) s = .next t ∧ t.arb e = { s.arb e with tallies := later } ∧
      ((∀ x ∈ s.rate.queue, x.port ≠ new.port) →
        t.rate.queue = s.rate.queue ++ [new] ∧ t.rate.reports = s.rate.reports) ∧
      (∀ before old after, s.rate.queue = before ++ old :: after → (∀ x ∈ before, x.port ≠ new.port) →
        old.port = new.port →
        t.rate.reports = s.rate.reports ++ [{ kind := .tallyMerged, flow := none, port := some new.port }] ∧
        ∃ merged, t.rate.queue = before ++ merged :: after ∧ merged.port = old.port ∧
          ∀ f, entryFor merged f =
            match entryFor old f, entryFor new f with
            | some x, some y =>
              some { flow := y.flow, delivered := min (x.delivered + y.delivered) 65535, demanding := y.demanding,
                     grants := y.grants }
            | some x, none => some x
            | none, y => y) ∧
      changesOnly s t [.arbiter e, .tallyQueue, .rateReports]

/-- R35 to R41: the head tally leaves the queue. With its port disabled or DOWN it is discarded and nothing else changes.
Otherwise each active flow has its target stored, one that is frozen and one outside the active set keep the rest, and the
port's arbiter is sent the refill of every flow in service. -/
def Obligations.TallyDividesTheShare : Prop :=
  ∀ (s : State) (y : Tally) (rest : List Tally), Live s → s.rate.queue = y :: rest →
    ∃ t, exec .tallyComputation s = .next t ∧ t.rate.queue = rest ∧
      ((s.mon y.port).enable = false ∨ (s.mon y.port).linkUp = false → changesOnly s t [.tallyQueue]) ∧
      ((s.mon y.port).enable = true → (s.mon y.port).linkUp = true →
        (∀ f, (t.rflow f).view = (s.rflow f).view ∧
          (Active s y f → (t.rflow f).ctl.lastTarget = targetOf s y f) ∧
          (Active s y f → (s.rflow f).ctl.frozen = true →
            (t.rflow f).ctl = { (s.rflow f).ctl with lastTarget := targetOf s y f }) ∧
          (¬ Active s y f → (t.rflow f).ctl = (s.rflow f).ctl)) ∧
        t.arb y.port =
          { s.arb y.port with
            refills := (s.arb y.port).refills ++
              [((List.finRange 96).filter fun f => Serves s y f).map fun f => (f, (t.rflow f).ctl.rate)] } ∧
        changesOnly s t (.tallyQueue :: .arbiter y.port :: allRateFlows))

/-- R43 to R55 and R59, stage by stage, for an active flow that is not frozen: the error and its clamps, the integrator and
windup stop, the two terms by floor division, the start-step limit, the bound clamp, the saturation outcome, and the start
count with the exit to RUN. -/
def Obligations.RateControllerStages : Prop :=
  ∀ (s : State) (y : Tally) (rest : List Tally) (f : Flow), Live s → s.rate.queue = y :: rest →
    (s.mon y.port).enable = true → (s.mon y.port).linkUp = true → Active s y f → (s.rflow f).ctl.frozen = false →
    let P := Table.get s.rate.profiles (s.rflow f).view.profile
    let old := (s.rflow f).ctl
    let target : Int := targetOf s y f
    let d := deliveredIn y f
    let upper : Int := if old.state = .start then P.startClamp else P.positiveClamp
    let error : Int := max (-P.negativeClamp) (min upper (target - min (d : Int) 16383))
    let held : Bool := P.windupStop && ((old.saturation == .high && error > 0) || (old.saturation == .low && error < 0))
    let integrator : Int :=
      if held then old.integrator else max (-P.integratorClamp) (min P.integratorClamp (old.integrator + error))
    let candidate : Int :=
      target + ((P.kp : Int) * error / (2 : Int) ^ P.kpShift + (P.ki : Int) * integrator / (2 : Int) ^ P.kiShift)
    let limit : Int := ((old.rate + P.startStep : Nat) : Int)
    let acts : Bool := old.state == .start && candidate > limit
    let x : Int := if acts then limit else candidate
    let top : Nat := min (s.rflow f).view.ceiling (Table.get s.rate.capacity y.port)
    let rate : Int := max ((s.rflow f).view.floor : Int) (min (top : Int) x)
    let count := min (old.startCount + 1) 15
    ∃ t, exec .tallyComputation s = .next t ∧
      (t.rflow f).ctl =
        { state := if old.state = .start ∧ targetOf s y f ≤ d ∧ P.startHold ≤ count then .run else old.state
          frozen := false, rate := rate.toNat, integrator := integrator, lastTarget := targetOf s y f
          lastError := error
          saturation := if acts then .high else if rate < x then .high else if x < rate then .low else .none
          startCount := if old.state = .start then count else old.startCount }

/-- R39: where the active floors fit the capacity and no ceiling is below its floor, every stored target of the active set is
at least the flow's floor and at most its ceiling, and the targets sum to at most the capacity. R24: the refill rate of an active,
unfrozen flow under a profile with both gains 0 and start step 16383, as after power-on, becomes its target, with saturation
none. -/
def Obligations.TargetsFitTheCapacity : Prop :=
  ∀ (s : State) (y : Tally) (rest : List Tally), Live s → s.rate.queue = y :: rest →
    (s.mon y.port).enable = true → (s.mon y.port).linkUp = true →
    sumActive s y (·.floor) ≤ Table.get s.rate.capacity y.port →
    (∀ f ∈ activeFlows s y, (s.rflow f).view.floor ≤ (s.rflow f).view.ceiling) →
    ∃ t, exec .tallyComputation s = .next t ∧
      (∀ f ∈ activeFlows s y, (s.rflow f).view.floor ≤ (t.rflow f).ctl.lastTarget ∧
        (t.rflow f).ctl.lastTarget ≤ (s.rflow f).view.ceiling) ∧
      ((activeFlows s y).map fun f => (t.rflow f).ctl.lastTarget).sum ≤ Table.get s.rate.capacity y.port ∧
      ∀ f ∈ activeFlows s y, (s.rflow f).ctl.frozen = false →
        (Table.get s.rate.profiles (s.rflow f).view.profile).kp = 0 →
        (Table.get s.rate.profiles (s.rflow f).view.profile).ki = 0 →
        (Table.get s.rate.profiles (s.rflow f).view.profile).startStep = 16383 → (s.rflow f).view.ceiling ≤ 16383 →
        (t.rflow f).ctl.rate = targetOf s y f ∧ (t.rflow f).ctl.saturation = .none

/-- R13, R41: a refill set is taken whole. At a disabled port it is discarded; otherwise the balance of each flow it names
becomes the lesser of the balance plus the refill and the burst cap, unless the flow is OFF, tripped or no longer held. -/
def Obligations.RefillSetApplied : Prop :=
  ∀ (s : State) (e : TargetPort) (x : RefillSet) (later : List RefillSet), Live s → (s.arb e).refills = x :: later →
    ∃ t, exec (.refillSet e) s = .next t ∧ t.arb e = { s.arb e with refills := later } ∧
      ((s.mon e).enable = false → changesOnly s t [.arbiter e]) ∧
      ((s.mon e).enable = true → ∀ f, t.flow f =
        match x.find? fun y => y.1 = f with
        | some y =>
          if Holds s e f ∧ ¬ Off s f ∧ ¬ TrippedAt s e f then
            { s.flow f with
              demand :=
                { (s.flow f).demand with
                  balance := min ((s.flow f).demand.balance + y.2) (s.flow f).view.burstCap } }
          else s.flow f
        | none => s.flow f) ∧
      changesOnly s t (.arbiter e :: allHeld)

/-! ## Grants -/

/-- R70 to R77: the candidate of the lowest class and, in it, the first behind the rotation pointer is granted its grant
size into the lowest free slot; and where no flow is a candidate nothing changes. That the row then leaves the state is
the model's choice (log entry 2). -/
def Obligations.GrantIssuedToChosenFlow : Prop :=
  ∀ (s : State) (e : TargetPort), Live s →
    ((∀ f, ¬ Candidate s e f) → exec (.grantIssue e) s = .next s) ∧
    ∀ (f : Flow) (n : Slot), Chosen s e f → (freeSlots s e).head? = some n →
      ∃ t, exec (.grantIssue e) s = .next t ∧
        (∀ k, Table.get (t.arb e).slots k =
          if k = n then
            { generation := (Table.get (s.arb e).slots n).generation + 1
              grant := some { flow := f, issued := size s e f, remaining := size s e f, age := 0 } }
          else Table.get (s.arb e).slots k) ∧
        t.flow f =
          { s.flow f with
            demand :=
              { (s.flow f).demand with
                balance := (s.flow f).demand.balance - size s e f
                outstanding := (s.flow f).demand.outstanding + size s e f
                grantCount := (s.flow f).demand.grantCount + 1 } } ∧
        t.arb e =
          { s.arb e with
            slots := (t.arb e).slots
            budget := (s.arb e).budget - size s e f
            granted := (s.arb e).granted + size s e f
            rotation := Table.put (s.arb e).rotation (s.flow f).view.urgency f } ∧
        size s e f ≤ (s.flow f).demand.balance ∧ size s e f ≤ (s.arb e).budget ∧
        Table.get t.link.waiting e = handedOn s e
          [.grant { port := e, slot := n, generation := (Table.get (s.arb e).slots n).generation + 1 } f (size s e f)] ∧
        changesOnly s t [.arbiter e, .held f, .waiting e]

/-- R78, R169: while the link is UP the oldest waiting record of an arbiter goes out, laid out as kind 9 or 10, the
grant tag, the flow's host port and tag with bit 0 set, and the cells, with a check that passes. The field that shows
the record sent is the model's own (log entry 19). -/
def Obligations.OldestRecordIsSent : Prop :=
  ∀ (s : State) (e : TargetPort) (x : OutRecord) (later : List OutRecord), Live s → s.link.up = true →
    Table.get s.link.waiting e = x :: later →
    ∃ t, exec (.linkRecordSend e) s = .next t ∧ Table.get t.link.waiting e = later ∧
      changesOnly s t [.waiting e, .sent] ∧
      ∃ b, t.link.sent = some b ∧ checkPasses b = true ∧ b[6] = 0 ∧
        (∀ tag f n, x = .grant tag f n →
          b[0] = 9 ∧ be16 b[1] b[2] = tag.port.val * 512 + tag.slot.val * 64 + tag.generation.toNat ∧
          b[3].toNat = f.val / 4 * 8 + f.val % 4 * 2 + 1 ∧ be16 b[4] b[5] = n % 65536) ∧
        ∀ tag f n, x = .cancel tag f n →
          b[0] = 10 ∧ be16 b[1] b[2] = tag.port.val * 512 + tag.slot.val * 64 + tag.generation.toNat ∧
          b[3].toNat = f.val / 4 * 8 + f.val % 4 * 2 + 1 ∧ be16 b[4] b[5] = n % 65536

/-! ## The fabric link -/

/-- R42, R169, R170. Lane lock is gained and lost; its loss takes an UP link DOWN at once and zeroes the good count of a DOWN
one. A record that fails its check is reported on an UP link, and raises the failure count or, as the eighth in a row,
takes the link DOWN; on a DOWN link it zeroes the good count. A record that passes its check on a DOWN link, short of
the fourth in a row, raises the good count and does nothing else, whatever its kind. That counts above their limits act
as at them is the model's choice (log entry 23). The fourth record makes the link UP, and does what it does in the state after
the monitors have taken the link-loss requests that they had still to take: that they are taken in its event at the latest is
the model's reading (log entry 28). The loss of the link disables every port at once (R42), and that the rest of the shutdown
waits for the monitor's taking of the request is R117's (log entry 30). -/
def Obligations.LinkStateCounts : Prop :=
  ∀ s : State, Live s →
    (∃ t, exec .laneLockGain s = .next t ∧ t.link.laneLock = true ∧ changesOnly s t [.laneLock]) ∧
    (∃ t, exec .laneLockLoss s = .next t ∧ t.link.laneLock = false ∧
      (s.link.up = true → LinkLost s t ∧
        changesOnly s t ([.laneLock, .linkState, .linkPosts] ++ allWaiting ++ allMonitors)) ∧
      (s.link.up = false → t.link.up = false ∧ t.link.goodCount = 0 ∧ t.link.failCount = s.link.failCount ∧
        changesOnly s t [.laneLock, .linkState])) ∧
    (∀ r : LinkRecord, s.link.laneLock = true → checkPasses r = false →
      ∃ t, exec (.recordCheckFailure r) s = .next t ∧
        (s.link.up = true →
          t.link.reports = s.link.reports ++ [{ kind := .linkCheck, flow := none, port := none }] ∧
          (s.link.failCount < 7 →
            t.link.up = true ∧ t.link.failCount = s.link.failCount + 1 ∧ t.link.goodCount = s.link.goodCount ∧
            changesOnly s t [.linkState, .linkReports]) ∧
          (7 ≤ s.link.failCount →
            LinkLost s t ∧ changesOnly s t ([.linkState, .linkReports, .linkPosts] ++ allWaiting ++ allMonitors))) ∧
        (s.link.up = false →
          t.link.up = false ∧ t.link.goodCount = 0 ∧ t.link.failCount = s.link.failCount ∧ changesOnly s t [.linkState])) ∧
    ∀ (r : LinkRecord) (c : Instr), s.link.laneLock = true → s.link.up = false →
      c.wellFormed = true → (c = .backlog r ∨ c = .done r ∨ c = .tstatRoute r ∨ c = .unknownKindRecord r) →
      (s.link.goodCount < 3 →
        ∃ t, exec c s = .next t ∧ t.link.goodCount = s.link.goodCount + 1 ∧ t.link.up = false ∧
          t.link.failCount = s.link.failCount ∧ changesOnly s t [.linkState]) ∧
      (3 ≤ s.link.goodCount →
        ∃ rows u t, TakesLosses rows s u ∧ LossTaken u ∧ u.link.up = false ∧ u.link.goodCount = s.link.goodCount ∧
          exec c s = .next t ∧ exec c u = .next t ∧ t.link.up = true ∧ t.link.goodCount = 0)

/-- R88, R97, R107, R169: a record that passes its check is handled on an UP link, or as the fourth good one in a row, and brings
the failure count to 0. An unknown kind and a cell count above 1024 are BAD_RECORD; a DONE goes to the arbiter in its tag and
a TSTAT to the monitor it names. That a good count above its limit acts as at it is the model's choice (log entry 23). A fourth
record with link-loss requests untaken is reduced to this case by LinkStateCounts (log entry 28). -/
def Obligations.HandledRecordsAreRouted : Prop :=
  ∀ (s : State) (r : LinkRecord), Handles s → checkPasses r = true →
    (r[0] ≠ 1 → r[0] ≠ 2 → r[0] ≠ 3 →
      ∃ t, exec (.unknownKindRecord r) s = .next t ∧ LinkUpAfter s t ∧
        t.link.reports = s.link.reports ++ [{ kind := .badRecord, flow := none, port := none }] ∧
        changesOnly s t [.linkState, .linkReports]) ∧
    (r[0] = 2 →
      ∃ t, exec (.done r) s = .next t ∧ LinkUpAfter s t ∧
        (1024 < (doneFields r).cells →
          t.link.reports = s.link.reports ++ [{ kind := .badRecord, flow := none, port := none }] ∧
          changesOnly s t [.linkState, .linkReports]) ∧
        ((doneFields r).cells ≤ 1024 →
          t.arb (doneFields r).tag.port =
            { s.arb (doneFields r).tag.port with
              inbox := (s.arb (doneFields r).tag.port).inbox ++
                [.done (doneFields r).tag (doneFields r).cells (doneFields r).endMark] } ∧
          changesOnly s t [.linkState, .arbiter (doneFields r).tag.port])) ∧
    (r[0] = 3 →
      ∃ t, exec (.tstatRoute r) s = .next t ∧ LinkUpAfter s t ∧
        t.mon (tstatFields r).port =
          { s.mon (tstatFields r).port with
            inbox := (s.mon (tstatFields r).port).inbox ++ [.status (tstatFields r).up (tstatFields r).level] } ∧
        changesOnly s t [.linkState, .monitor (tstatFields r).port])

/-- R89 to R93: the checks of a handled BACKLOG record in their order, each failing one discarding it with its fault; a record
that passes goes to the arbiter of the port it names, clamped to the backlog limit with BACKLOG_CLAMPED. At an UNTAGGED host
port tag and tag valid are ignored, and the flow is that of tag 0. That a good count above its limit acts as at it is the
model's choice (log entry 23), and a fourth record with link-loss requests untaken is reduced to this case by LinkStateCounts (log
entry 28). -/
def Obligations.BacklogChecksInOrder : Prop :=
  ∀ (s : State) (r : LinkRecord), Handles s → checkPasses r = true → r[0] = 1 →
    let x := backlogFields r
    let faulty := fun (t : State) (k : FaultKind) (f : Option Flow) (e : Option TargetPort) =>
      t.link.reports = s.link.reports ++ [{ kind := k, flow := f, port := e }] ∧ changesOnly s t [.linkState, .linkReports]
    let passed := fun (t : State) (m : ArbiterMsg) =>
      t.arb x.port = { s.arb x.port with inbox := (s.arb x.port).inbox ++ [m] }
    ∃ t, exec (.backlog r) s = .next t ∧ LinkUpAfter s t ∧
      (24 ≤ x.host → faulty t .badRecord none none) ∧
      ∀ h : HostPort, h.val = x.host →
        ((Table.get s.link.hosts h).tagged = true → x.tagValid = false → faulty t .tagMissing none (some x.port)) ∧
        (((Table.get s.link.hosts h).tagged = true ∧ x.tagValid = true) ∨ (Table.get s.link.hosts h).tagged = false →
          ∀ f : Flow, f.val = h.val * 4 + (if (Table.get s.link.hosts h).tagged then x.tag.val else 0) →
            (Off s f → faulty t .unboundReport (some f) (some x.port)) ∧
            (¬ Off s f → Table.get s.link.flowPort f ≠ x.port → faulty t .misroute (some f) (some x.port)) ∧
            (¬ Off s f → Table.get s.link.flowPort f = x.port →
              ((Table.get s.link.hosts h).limit < x.cells →
                t.link.reports = s.link.reports ++ [{ kind := .backlogClamped, flow := some f, port := some x.port }] ∧
                passed t (.backlog f (Table.get s.link.hosts h).limit x.flush) ∧
                changesOnly s t [.linkState, .linkReports, .arbiter x.port]) ∧
              (x.cells ≤ (Table.get s.link.hosts h).limit →
                passed t (.backlog f x.cells x.flush) ∧ changesOnly s t [.linkState, .arbiter x.port])))

/-- R11, R94, R95: an arbiter takes a passed report. For a flow that is OFF it is discarded with UNBOUND_REPORT, for one
no longer held with MISROUTE, and otherwise backlog and flush mark are what it says. That OFF is tested first is the
model's reading (log entry 13). -/
def Obligations.BacklogReportApplied : Prop :=
  ∀ (s : State) (e : TargetPort) (f : Flow) (cells : Nat) (flush : Bool) (rest : List ArbiterMsg), Live s →
    (s.arb e).inbox = .backlog f cells flush :: rest →
    ∃ t, exec (.backlogApply e) s = .next t ∧
      (Off s f →
        t.arb e =
          { s.arb e with
            inbox := rest
            reports := (s.arb e).reports ++ [{ kind := .unboundReport, flow := some f, port := some e }] } ∧
        changesOnly s t [.arbiter e]) ∧
      (¬ Off s f → ¬ Holds s e f →
        t.arb e =
          { s.arb e with
            inbox := rest, reports := (s.arb e).reports ++ [{ kind := .misroute, flow := some f, port := some e }] } ∧
        changesOnly s t [.arbiter e]) ∧
      (¬ Off s f → Holds s e f →
        t.arb e = { s.arb e with inbox := rest } ∧
        t.flow f = { s.flow f with demand := { (s.flow f).demand with backlog := cells, flush := flush } } ∧
        changesOnly s t [.arbiter e, .held f])

/-! ## Completions -/

/-- R98, R99, R101 to R103. A completion below the remaining count with end mark clear leaves the grant outstanding with age 0, and
remaining count and outstanding cells fall by k; one with the end mark retires the grant and refunds the rest up to the burst
cap, unless the flow is OFF; one above the remaining count retires the grant as an overrun, credits all k cells and reports
OVERRUN. One whose slot is free or busy under another generation is late: LATE_DONE is reported and nothing is credited. -/
def Obligations.CompletionsByCase : Prop :=
  ∀ (s : State) (e : TargetPort) (tag : GrantTag) (k : Nat) (endMark : Bool) (rest : List ArbiterMsg),
    Completes s e tag k endMark rest →
    ((∀ g, ¬ Matches s e tag g) → ∃ t, exec (.doneMatch e) s = .next t ∧
      t.arb e =
        { s.arb e with
          inbox := rest, reports := (s.arb e).reports ++ [{ kind := .lateDone, flow := none, port := some e }] } ∧
      changesOnly s t [.arbiter e]) ∧
    ∀ g : Grant, Matches s e tag g →
    (k < g.remaining → endMark = false → ∃ t, exec (.doneMatch e) s = .next t ∧
      t.arb e =
        { s.arb e with
          inbox := rest
          slots := Table.put (s.arb e).slots tag.slot
            { generation := tag.generation, grant := some { g with remaining := g.remaining - k, age := 0 } } } ∧
      t.flow g.flow =
        { s.flow g.flow with
          demand :=
            { (s.flow g.flow).demand with
              outstanding := (s.flow g.flow).demand.outstanding - k
              delivered := min ((s.flow g.flow).demand.delivered + k) 65535 } } ∧
      changesOnly s t [.arbiter e, .held g.flow]) ∧
    (k < g.remaining → endMark = true → ∃ t, exec (.doneMatch e) s = .next t ∧ t.arb e = retiredAt s e tag.slot rest ∧
      t.flow g.flow =
        { s.flow g.flow with
          demand :=
            { (s.flow g.flow).demand with
              outstanding := (s.flow g.flow).demand.outstanding - g.remaining
              grantCount := (s.flow g.flow).demand.grantCount - 1
              balance :=
                if Off s g.flow then (s.flow g.flow).demand.balance
                else min ((s.flow g.flow).demand.balance + (g.remaining - k)) (s.flow g.flow).view.burstCap
              delivered := min ((s.flow g.flow).demand.delivered + k) 65535 } } ∧
      changesOnly s t [.arbiter e, .held g.flow]) ∧
    (g.remaining < k → ∃ t, exec (.doneMatch e) s = .next t ∧
      t.arb e =
        { retiredAt s e tag.slot rest with
          reports := (s.arb e).reports ++ [{ kind := .overrun, flow := some g.flow, port := some e }] } ∧
      t.flow g.flow =
        { s.flow g.flow with
          demand :=
            { (s.flow g.flow).demand with
              outstanding := (s.flow g.flow).demand.outstanding - g.remaining
              grantCount := (s.flow g.flow).demand.grantCount - 1
              delivered := min ((s.flow g.flow).demand.delivered + k) 65535 } } ∧
      changesOnly s t [.arbiter e, .held g.flow])

/-- R100, with the credit of R98: a completion equal to the remaining count retires the grant whatever the end mark, with its
retirement report and no refund. -/
def Obligations.FullCompletion : Prop :=
  ∀ (s : State) (e : TargetPort) (tag : GrantTag) (k : Nat) (endMark : Bool) (rest : List ArbiterMsg) (g : Grant),
    Completes s e tag k endMark rest → Matches s e tag g → k = g.remaining →
    ∃ t, exec (.doneMatch e) s = .next t ∧ t.arb e = retiredAt s e tag.slot rest ∧
      grantAt t e tag.slot = none ∧
      (Table.get (t.arb e).slots tag.slot).generation = (Table.get (s.arb e).slots tag.slot).generation ∧
      (t.arb e).toExecutor = (s.arb e).toExecutor ++ [.retired (tagAt s e tag.slot)] ∧
      t.flow g.flow =
        { s.flow g.flow with
          demand :=
            { (s.flow g.flow).demand with
              outstanding := (s.flow g.flow).demand.outstanding - k
              grantCount := (s.flow g.flow).demand.grantCount - 1
              delivered := min ((s.flow g.flow).demand.delivered + k) 65535 } } ∧
      changesOnly s t [.arbiter e, .held g.flow]

/-! ## Target port conditions -/

/-- R107, R108, R110, R113, R117: a monitor takes a TSTAT record by the link state it holds and the one in the record, and a
link-loss request as a report of DOWN whose shutdown calls for no CANCEL. A monitor that holds its link DOWN sends its arbiter
nothing, as R117 has it; R84 speaks of every monitor (log entry 25). -/
def Obligations.MonitorTakesStatus : Prop :=
  ∀ (s : State) (e : TargetPort) (rest : List MonitorMsg), Live s →
    let m := s.mon e
    let down := fun (t : State) (cancels : Bool) =>
      t.mon e =
        { m with
          inbox := rest, linkUp := false, enable := false, level := 0
          reports := m.reports ++ [{ kind := .portDown, flow := none, port := some e }]
          posts := m.posts ++ [.toBoth .portDown] } ∧
      t.arb e = { s.arb e with shutdowns := (s.arb e).shutdowns ++ [cancels] } ∧
      changesOnly s t [.monitor e, .arbiter e]
    (∀ level, m.inbox = .status false level :: rest → ∃ t, exec (.tstat e) s = .next t ∧
      (m.linkUp = true → down t true) ∧
      (m.linkUp = false → t.mon e = { m with inbox := rest } ∧ changesOnly s t [.monitor e])) ∧
    (∀ level, m.inbox = .status true level :: rest → ∃ t, exec (.tstat e) s = .next t ∧
      (m.threshold ≤ level → m.tripFlag = false →
        t.mon e =
          { m with
            inbox := rest, linkUp := true, level := level, tripFlag := true
            posts := m.posts ++ [.toBoth .trip] }) ∧
      (level < m.threshold ∨ m.tripFlag = true → t.mon e = { m with inbox := rest, linkUp := true, level := level }) ∧
      changesOnly s t [.monitor e]) ∧
    (m.inbox = .linkLoss :: rest → ∃ t, exec (.linkLossRequest e) s = .next t ∧
      (m.linkUp = true → down t false) ∧
      (m.linkUp = false → t.mon e = { m with inbox := rest } ∧ changesOnly s t [.monitor e]))

/-- R84, R82, R83: an arbiter takes a shutdown request. Every busy slot is freed with its generation kept and its retirement
reported in slot order, with a CANCEL for each where the request calls for them; the port's flows have their backlog, flush
mark, outstanding cells and grant count cleared, and keep balance and delivered count. That the retirement reports stand in
slot order is the model's choice (log entry 26). -/
def Obligations.ShutdownCancelsGrants : Prop :=
  ∀ (s : State) (e : TargetPort) (cancels : Bool) (later : List Bool), Live s → (s.arb e).shutdowns = cancels :: later →
    ∃ t, exec (.shutdownRequest e) s = .next t ∧
      (∀ n, Table.get (t.arb e).slots n = { generation := (Table.get (s.arb e).slots n).generation, grant := none }) ∧
      t.arb e =
        { s.arb e with
          shutdowns := later, slots := (t.arb e).slots
          toExecutor :=
            (s.arb e).toExecutor ++ (slotsWhere s e fun _ => true).map (fun x => ExecutorMsg.retired (tagAt s e x.1)) } ∧
      Table.get t.link.waiting e = handedOn s e
        (if cancels then
          (slotsWhere s e fun _ => true).map fun x => .cancel (tagAt s e x.1) x.2.flow x.2.remaining
        else []) ∧
      (∀ f, Holds s e f →
        t.flow f =
          { s.flow f with
            demand :=
              { (s.flow f).demand with backlog := 0, flush := false, outstanding := 0, grantCount := 0 } }) ∧
      (∀ f, ¬ Holds s e f →
        t.flow f =
          { s.flow f with
            demand :=
              { (s.flow f).demand with
                outstanding := (s.flow f).demand.outstanding - cellsOf (slotsWhere s e fun _ => true) f
                grantCount := (s.flow f).demand.grantCount - grantsOf (slotsWhere s e fun _ => true) f } }) ∧
      changesOnly s t (.arbiter e :: .waiting e :: allHeld)

/-! ## Faults and events -/

/-- R163: the unit takes a report. It is coalesced into the record with its key, or takes the lowest empty record with FAULT
posted to the fitted ports, or is dropped, with overflow set and FAULT posted where overflow was clear. -/
def Obligations.FaultReportTaken : Prop :=
  ∀ (s : State) (src : Source) (r : FaultReport) (later : List FaultReport), Live s → s.reportsOf src = r :: later →
    let keyed := fun i : FaultIx => (Table.get s.unit.table i).any fun x => x.key = r
    ∃ t, exec (.faultReport src) s = .next t ∧ t.reportsOf src = later ∧
      t.postsOf src = s.postsOf src ∧ (∀ e, src = .arbiter e → t.arb e = { s.arb e with reports := later }) ∧
      (∀ e, src = .monitor e → t.mon e = { s.mon e with reports := later }) ∧
      (∀ i x, Table.get s.unit.table i = some x → x.key = r → (∀ k < i, keyed k = false) →
        t.unit =
          { s.unit with
            table := Table.put s.unit.table i
              (some { x with last := s.timer.epoch, count := min (x.count + 1) 255 }) }) ∧
      (∀ i, (∀ k, keyed k = false) → Table.get s.unit.table i = none → (∀ k < i, Table.get s.unit.table k ≠ none) →
        t.unit =
          { s.unit with
            table := Table.put s.unit.table i
              (some { key := r, first := s.timer.epoch, last := s.timer.epoch, count := 1 })
            pending := { a := withFault s .a, b := withFault s .b } }) ∧
      ((∀ k, keyed k = false) → (∀ k, Table.get s.unit.table k ≠ none) →
        (s.unit.overflow = true → t.unit = s.unit) ∧
        (s.unit.overflow = false →
          t.unit = { s.unit with overflow := true, pending := { a := withFault s .a, b := withFault s .b } })) ∧
      changesOnly s t (sourcePart src ++ [.faultTable, .overflow, .causes .a, .causes .b])

/-- R165, R166, R130: the unit takes whole a block's oldest posting that names a port. The cause is in the set of every port that
it names and that is fitted, and every other cause is as it was; a port's event line is asserted exactly while the port is
fitted and its set holds a cause that its mask leaves unmasked. That the row names a port of the posting is the model's
choice (log entry 7). -/
def Obligations.PostingTaken : Prop :=
  ∀ (s : State) (src : Source) (p : MPort) (x : Posting) (before later : List Posting), Live s →
    s.postsOf src = before ++ x :: later → (∀ y ∈ before, postedTo y p = false) → postedTo x p = true →
    ∃ t, exec (.eventPost src p) s = .next t ∧ t.postsOf src = before ++ later ∧ t.reportsOf src = s.reportsOf src ∧
      (∀ e, src = .monitor e → t.mon e = { s.mon e with posts := before ++ later }) ∧
      (∀ q k, (t.unit.pending.get q).has k =
        ((s.unit.pending.get q).has k || (decide (k = causeOf x) && postedTo x q && !(s.solo && q == .b)))) ∧
      (∀ q, t.eventLine q = true ↔
        ¬ (s.solo = true ∧ q = .b) ∧ ∃ k, (t.unit.pending.get q).has k = true ∧ (s.unit.mask.get q).has k = false) ∧
      changesOnly s t (sourcePart src ++ [.causes .a, .causes .b])

/-! ## Management ports -/

/-- R119, R120, R122, R130, R171: a whole transaction other than a PULL, by its first byte. A PUSH of at least sixteen record bytes
joins the record to a queue of fewer than 16 and reads TAKEN, and is discarded with FULL otherwise; its status byte shows
only if an eighteenth byte is clocked, with 0 before it; what follows it is free, as the model leaves it, and how many free
bytes are shifted out is counted (log entry 29); a shorter one changes no queue and has no status. A PEEK shifts out
0, the port state word with its most significant bit first, and zeros. Any other first byte, or none, is ignored, with zeros
shifted out. At a port that is not fitted each is nothing, and no word is returned. That a transaction ends a PULL in progress,
and that these bytes do not select a PULL, are the model's choices (log entry 10), and the field that shows the bytes
shifted out is its own (log entry 19). -/
def Obligations.PushPeekOrIgnored : Prop :=
  ∀ (s : State) (p : MPort) (bytes : List Byte), Live s →
    let m := s.mgmt p
    let n := bytes.length
    let x := s.unit.pending.get p
    let ends := fun (t : State) (out : List Byte) =>
      t.mgmt p = { m with pulling := none, miso := (out ++ List.replicate n 0).take n }
    (s.solo = true → p = .b → exec (.push p bytes) s = .next s ∧ s.peekWord p = none) ∧
    (¬ (s.solo = true ∧ p = .b) →
      (bytes.head? = some 1 → ∃ t, exec (.push p bytes) s = .next t ∧
        (n < 17 → ends t []) ∧
        (17 ≤ n → ∃ later : List Byte, later.length = n - 18 ∧
          (16 ≤ m.commands.length →
            t.mgmt p =
              { m with
                pulling := none, miso := (List.replicate 17 0 ++ [2] ++ later).take n, drawn := m.drawn + (n - 18) }) ∧
          (m.commands.length < 16 →
            ∃ r : CommandRecord, r.toList = (bytes.drop 1).take 16 ∧
              t.mgmt p =
                { m with
                  commands := m.commands ++ [r], pulling := none
                  miso := (List.replicate 17 0 ++ [1] ++ later).take n, drawn := m.drawn + (n - 18) })) ∧
        changesOnly s t [.mgmt p]) ∧
      (bytes.head? = some 3 → ∃ t, exec (.push p bytes) s = .next t ∧ ∃ w, s.peekWord p = some w ∧
        (m.commands.length ≤ 16 → m.responses.length ≤ 16 →
          w.toNat / 2048 = 16 - m.commands.length ∧ w.toNat / 64 % 32 = m.responses.length ∧
          w.getLsbD 5 = x.linkDown ∧ w.getLsbD 4 = x.portDown ∧ w.getLsbD 3 = x.trip ∧ w.getLsbD 2 = x.fault ∧
          w.getLsbD 1 = x.fenceDone ∧ w.getLsbD 0 = false) ∧
        ends t [0, w.extractLsb' 8 8, w.extractLsb' 0 8] ∧ changesOnly s t [.mgmt p]) ∧
      (bytes.head? ≠ some 1 → bytes.head? ≠ some 2 → bytes.head? ≠ some 3 →
        ∃ t, exec (.push p bytes) s = .next t ∧ ends t [] ∧ changesOnly s t [.mgmt p]) ∧
      (bytes.head? = some 2 → exec (.push p bytes) s = .next s))

/-- R121, R127, R130, R171, R173: the selector byte of a PULL fixes the head response or the empty marker; the transaction shifts
out 0 during that byte, then that record, laid out as R173 gives it, and then zeros; and it removes the response only if
all thirty-two bytes were clocked and the response it returned still stands at the head. At a port that is not fitted both
rows are nothing. A PULL whose selector byte was no step of its own fixes its record at its end (log entry 10). The field that
shows the bytes is the model's own (log entry 19), and numbers wider than their bytes are cut to them (log entry 20). -/
def Obligations.PullReturnsTheHead : Prop :=
  ∀ (s : State) (p : MPort) (clocked : Nat), Live s →
    let x := (s.mgmt p).pulling.getD { response := (s.mgmt p).responses.head?, standing := true }
    (s.solo = true → p = .b →
      exec (.pullSelectorByte p) s = .next s ∧ exec (.pull p clocked) s = .next s) ∧
    (¬ (s.solo = true ∧ p = .b) →
      (∃ t, exec (.pullSelectorByte p) s = .next t ∧
        t.mgmt p =
          { s.mgmt p with pulling := some { response := (s.mgmt p).responses.head?, standing := true } } ∧
        changesOnly s t [.mgmt p]) ∧
      ∃ t, exec (.pull p clocked) s = .next t ∧ ∃ record : List Byte,
        (∀ r, x.response = some r → LaidOut record r) ∧ (x.response = none → record = List.replicate 32 0) ∧
        t.mgmt p =
          { s.mgmt p with
            pulling := none
            responses :=
              if 32 ≤ clocked ∧ x.standing = true ∧ x.response ≠ none then (s.mgmt p).responses.tail
              else (s.mgmt p).responses
            miso := (0 :: record ++ List.replicate clocked 0).take (clocked + 1) } ∧
        changesOnly s t [.mgmt p])

/-- R131, R121, R130: a port clear empties the port's queues, releases its promise, drops its fence and its consent, empties its
pending set and masks every cause, and leaves everything else. That the executor's own postings on their way to the port
are emptied in the same step is the model's reading of R132 and R167 (log entry 11). -/
def Obligations.PortClearEmptiesThePort : Prop :=
  ∀ (s : State) (p : MPort), Live s →
    (s.solo = true → p = .b → exec (.portClear p) s = .next s) ∧
    (¬ (s.solo = true ∧ p = .b) → ∃ t, exec (.portClear p) s = .next t ∧
      t.mgmt p =
        { s.mgmt p with
          commands := [], responses := [], promised := false, fence := none
          pulling := (s.mgmt p).pulling.map fun x => { x with standing := false } } ∧
      t.cmd.consent.get p = false ∧ t.cmd.consent.get p.other = s.cmd.consent.get p.other ∧
      (∀ k, (t.unit.pending.get p).has k = false) ∧ (∀ k, (t.unit.mask.get p).has k = true) ∧ t.eventLine p = false ∧
      t.cmd.posts = s.cmd.posts.filter (fun x => match x with
        | .toPort q _ => q ≠ p
        | .toBoth _ => true) ∧
      changesOnly s t [.mgmt p, .consent, .executorPosts, .causes p, .mask p])

/-! ## Taking and ending commands -/

/-- R124 to R127: the executor takes the head command of the port that the alternation gives. It leaves the queue, the
preference moves to the other port, and the command is answered in the step, with its tag and kind, or is in execution
with a slot promised and a request before it; the blocks other than the executor are as they were. With a command in
execution, or no port that has a takeable command, none is taken. The row of the record's kind is the same
taking. That the row leaves the state where none is taken, that taking and checks are one step of either row, and that the
look is a step of its own, are the model's choices (log entries 2, 8 and 27). -/
def Obligations.CommandTakenInTurn : Prop :=
  (∀ s : State, Live s → (s.cmd.running.isSome ∨ (¬ Ready (s.mgmt .a) ∧ ¬ Ready (s.mgmt .b))) →
    exec .commandTake s = .next s) ∧
  ∀ (s : State) (p : MPort) (r : CommandRecord), Offers s p r →
    ∃ t, exec .commandTake s = .next t ∧ (∀ row, rowOf r = some row → exec row s = .next t) ∧
      t.cmd.preference = p.other ∧
      ((∃ x : Response, x.tag = r[1] ∧ x.kind = r[0] ∧ t.cmd.running = none ∧
          t.mgmt p =
            { s.mgmt p with
              commands := (s.mgmt p).commands.tail, responses := (s.mgmt p).responses ++ [x], promised := false }) ∨
        (∃ j : Running, j.port = p ∧ j.tag = r[1] ∧ j.kind = r[0] ∧ j.todo ≠ [] ∧ t.cmd.running = some j ∧
          t.mgmt p = { s.mgmt p with commands := (s.mgmt p).commands.tail, promised := true })) ∧
      changesOnly s t [.mgmt p, .running, .preference, .flowConfigs, .portConfigs, .hostConfigs, .lock, .consent,
        .executorPosts]

/-- R127, R132: a command whose last request has been answered ends; its response, with its tag, kind, status, scope and payload,
fills the promised slot, or is discarded where a clear has released the promise. -/
def Obligations.CommandEndAnswers : Prop :=
  ∀ (s : State) (j : Running), Live s → s.cmd.running = some j → j.todo = [] →
    ∃ t, exec .commandEnd s = .next t ∧ t.cmd.running = none ∧
      t.mgmt j.port = answered (s.mgmt j.port)
        { tag := j.tag, kind := j.kind, status := j.status, scope := j.scope, payload := j.payload } ∧
      changesOnly s t [.mgmt j.port, .running]

/-- R129, R171, R172: a record that carries a command's fields, each where the table of R172 places it, is read as that command;
a record whose kind is 0 or 18 to 255 is answered REFUSED_UNKNOWN, and one with an index or code out of range or a
malformed presence set REFUSED_RANGE, in the step that takes it and with nothing else changed. -/
def Obligations.CommandRecordsChecked : Prop :=
  (∀ (r : CommandRecord) (c : Command), Carries r c → parseCommand r = .ok c) ∧
  ∀ (s : State) (p : MPort) (r : CommandRecord), Offers s p r →
    (r[0].toNat = 0 ∨ 18 ≤ r[0].toNat →
      ∃ t, exec .unknownCommand s = .next t ∧ exec .commandTake s = .next t ∧ AnsweredAtOnce s t p r .refusedUnknown ∧
        changesOnly s t [.mgmt p, .preference]) ∧
    (outOfRange r = true →
      ∃ t, exec .commandTake s = .next t ∧ AnsweredAtOnce s t p r .refusedRange ∧ changesOnly s t [.mgmt p, .preference])

/-! ## What each command sends or does when it is taken -/

/-- R137: with the lock closed a FLOW_SET that changes the floor is refused; and one that raises the floor, or moves a flow with
a floor, is refused where the floors naming the resulting port would exceed its reserve. -/
def Obligations.FlowSetRefused : Prop :=
  ∀ (s : State) (p : MPort) (r : CommandRecord) (f : Flow) (w : FlowWrite), Offers s p r →
    parseCommand r = .ok (.flowSet f w) →
    let c := Table.get s.cmd.flows f
    let x := flowAfter w c
    (s.cmd.lockClosed = true → x.floor ≠ c.floor →
      ∃ t, exec .flowSet s = .next t ∧ AnsweredAtOnce s t p r .refusedLocked ∧ changesOnly s t [.mgmt p, .preference]) ∧
    (s.cmd.lockClosed = false ∨ x.floor = c.floor → c.floor < x.floor ∨ (x.port ≠ c.port ∧ 0 < x.floor) →
      (Table.get s.cmd.ports x.port).reserve < floorsNaming (Table.put s.cmd.flows f x) x.port →
      ∃ t, exec .flowSet s = .next t ∧ AnsweredAtOnce s t p r .refusedReserve ∧ changesOnly s t [.mgmt p, .preference])

/-- R136 to R138: a FLOW_SET that passes its checks. On the same port the executor writes the clamped fields at once and sends
what they change; for another port it sends the release first and owes the write until the old arbiter takes it. -/
def Obligations.FlowSetExecuted : Prop :=
  ∀ (s : State) (p : MPort) (r : CommandRecord) (f : Flow) (w : FlowWrite), Offers s p r →
    parseCommand r = .ok (.flowSet f w) →
    let c := Table.get s.cmd.flows f
    let x := flowAfter w c
    (s.cmd.lockClosed = false ∨ x.floor = c.floor) →
    ((x.floor ≤ c.floor ∧ (x.port = c.port ∨ x.floor = 0)) ∨
      floorsNaming (Table.put s.cmd.flows f x) x.port ≤ (Table.get s.cmd.ports x.port).reserve) →
    (x.port = c.port → ∃ t, exec .flowSet s = .next t ∧ t.cmd.flows = Table.put s.cmd.flows f x ∧
      Executed s t p r (okStatus (flowClamped w c))
        ((if rateViewOf x = rateViewOf c then [] else [.bound f (rateViewOf x)]) ++
          (if arbiterViewOf x = arbiterViewOf c then [] else [.flowConfig f (arbiterViewOf x)])) ∧
      changesOnly s t [.mgmt p, .preference, .running, .flowConfigs]) ∧
    (x.port ≠ c.port → ∃ t, exec .flowSet s = .next t ∧
      Sending s t p r (okStatus (flowClamped w c))
        [.release f c.port, .flowTake f x.port (arbiterViewOf x), .bound f (rateViewOf x), .targetPort f x.port]
        (some (.flow f x)) .absent false ∧
      changesOnly s t [.mgmt p, .preference, .running])

/-- R136, R142, R143: the three checks of a PORT_SET in their order; then, where it names the enable or the threshold, the monitor
request with the write owed until the monitor takes it, and otherwise the write at once; and the capacity and port requests. -/
def Obligations.PortSetChecksAndWrites : Prop :=
  ∀ (s : State) (p : MPort) (r : CommandRecord) (e : TargetPort) (w : PortWrite), Offers s p r →
    parseCommand r = .ok (.portSet e w) →
    let c := Table.get s.cmd.ports e
    let x := portAfter w c
    let locked : Prop := s.cmd.lockClosed = true ∧ x.reserve ≠ c.reserve
    let short : Prop :=
      (w.capacity ≠ none ∧ w.reserve = none ∧ x.capacity < c.reserve) ∨ x.reserve < floorsNaming s.cmd.flows e
    let requests : List Request :=
      (if x.capacity = c.capacity then [] else [.capacity e x.capacity]) ++
        (if portViewOf x = portViewOf c then [] else [.port e (portViewOf x)])
    (locked → ∃ t, exec .portSet s = .next t ∧ AnsweredAtOnce s t p r .refusedLocked ∧
      changesOnly s t [.mgmt p, .preference]) ∧
    (¬ locked → short → ∃ t, exec .portSet s = .next t ∧ AnsweredAtOnce s t p r .refusedReserve ∧
      changesOnly s t [.mgmt p, .preference]) ∧
    (¬ locked → ¬ short → w.enable ≠ none ∨ w.threshold ≠ none → ∃ t, exec .portSet s = .next t ∧
      Sending s t p r (okStatus (portClamped w c))
        (.monitor e w.enable (w.threshold.map fun v => max 1 (min v 4)) :: requests) (some (.port e x)) .absent false ∧
      changesOnly s t [.mgmt p, .preference, .running]) ∧
    (¬ locked → ¬ short → w.enable = none → w.threshold = none → ∃ t, exec .portSet s = .next t ∧
      t.cmd.ports = Table.put s.cmd.ports e x ∧ Executed s t p r (okStatus (portClamped w c)) requests ∧
      changesOnly s t [.mgmt p, .preference, .running, .portConfigs])

/-- R136, R145, R146: a HOSTPORT_SET writes the executor's record and sends it to the Link Interface, and a PROFILE_SET sends
its clamped fields to the Rate Engine; either with an empty presence set is answered DONE and sends nothing. -/
def Obligations.HostportAndProfileSet : Prop :=
  ∀ (s : State) (p : MPort) (r : CommandRecord), Offers s p r →
    (∀ h w, parseCommand r = .ok (.hostportSet h w) →
      (w.tagged = none ∧ w.limit = none → ∃ t, exec .hostportSet s = .next t ∧ AnsweredAtOnce s t p r .done ∧
        changesOnly s t [.mgmt p, .preference]) ∧
      (¬ (w.tagged = none ∧ w.limit = none) →
        let x : HostRecord :=
          { tagged := w.tagged.getD (Table.get s.cmd.hosts h).tagged
            limit := (w.limit.map fun v => max 256 (min v 65535)).getD (Table.get s.cmd.hosts h).limit }
        ∃ t, exec .hostportSet s = .next t ∧ t.cmd.hosts = Table.put s.cmd.hosts h x ∧
          Sending s t p r (okStatus (w.limit.any fun v => v < 256 || 65535 < v)) [.hostport h x] none .absent false ∧
          changesOnly s t [.mgmt p, .preference, .running, .hostConfigs])) ∧
    (∀ i w, parseCommand r = .ok (.profileSet i w) →
      (w = noProfileField → ∃ t, exec .profileSet s = .next t ∧ AnsweredAtOnce s t p r .done ∧
        changesOnly s t [.mgmt p, .preference]) ∧
      (w ≠ noProfileField →
        Starts .profileSet s p r (okStatus (profileAfter w ≠ w)) [.profile i (profileAfter w)] .absent false))

/-- R115, R140, R147, R152 to R155, R158, R164, R167: what each command that acts at other blocks alone sends when it is taken; a
FLOWSET of 32 or 64 flows is sent as ALL (R153), and a fence with drain reads the arbiters from T0 to T7. R141, R144: a FLOW_READ
and a PORT_READ of section 0 read the executor's part, the floor sum with it, at the taking, and send their reads in the order
of the payload's parts; a PORT_READ of section 1 or 2 sends one read of four slots. -/
def Obligations.CommandsSendTheirRequests : Prop :=
  ∀ (s : State) (p : MPort) (r : CommandRecord), Offers s p r →
    (∀ f, parseCommand r = .ok (.flowMode f true) → Starts .flowModeEnable s p r .done [.startEntry f] .absent false) ∧
    (∀ f, parseCommand r = .ok (.flowMode f false) →
      Starts .flowModeDisable s p r .done [.offEntry f, .clearing f] .absent false) ∧
    (∀ x, parseCommand r = .ok (.epochSet x) → Starts .epochSet s p r .done [.epochSet x] .absent false) ∧
    (∀ x a, parseCommand r = .ok (.reshape x a) →
      let y := match x with
        | .flowset base mask => if mask ≤ 4 then Scope.flowset base mask else .all
        | _ => x
      (a = .restart → Starts .reshapeRestart s p r .done [.reshape y .restart] .absent false) ∧
      (a = .freeze → Starts .reshapeFreeze s p r .done [.reshape y .freeze] .absent false) ∧
      (a = .thaw → Starts .reshapeThaw s p r .done [.reshape y .thaw] .absent false)) ∧
    (∀ notify, parseCommand r = .ok (.fence notify true) →
      Starts .fenceDrain s p r .done
        [.fenceRead 0, .fenceRead 1, .fenceRead 2, .fenceRead 3, .fenceRead 4, .fenceRead 5, .fenceRead 6, .fenceRead 7]
        .absent notify) ∧
    (∀ e, parseCommand r = .ok (.tripClear e) → Starts .tripClear s p r .done [.tripClear e] .absent false) ∧
    (∀ i, parseCommand r = .ok (.faultRead i) → Starts .faultRead s p r .done [.faultRead i] .absent false) ∧
    (∀ i, parseCommand r = .ok (.faultClear i) → Starts .faultClear s p r .done [.faultClear i] .absent false) ∧
    (parseCommand r = .ok .faultClearAll → Starts .faultClearAll s p r .done [.faultClearAll] .absent false) ∧
    (∀ x, parseCommand r = .ok (.eventMask x) → Starts .eventMask s p r .done [.eventMask x] .absent false) ∧
    (∀ x, parseCommand r = .ok (.eventAck x) → Starts .eventAck s p r .done [.eventAck x] .absent false) ∧
    (∀ f, parseCommand r = .ok (.flowRead f) → ∃ x : FlowSnapshot, x.config = Table.get s.cmd.flows f ∧
      Starts .flowRead s p r .done [.readController f, .readDemand f, .readTripped (Table.get s.cmd.flows f).port]
        (.flow x) false) ∧
    (∀ e, parseCommand r = .ok (.portRead e 0) → ∃ x : PortSnapshot,
      x.config = Table.get s.cmd.ports e ∧ x.floorSum = floorsNaming s.cmd.flows e ∧
      Starts .portRead s p r .done [.readCondition e, .readBudget e] (.port x) false) ∧
    (∀ e, parseCommand r = .ok (.portRead e 1) → Starts .portRead s p r .done [.readSlots e false] .absent false) ∧
    (∀ e, parseCommand r = .ok (.portRead e 2) → Starts .portRead s p r .done [.readSlots e true] .absent false)

/-! ## Fences and the reserve lock -/

/-- R157: a FENCE with drain no is answered DONE, with scope and payload absent, in the step that takes it; FENCE_DONE is posted
to the issuing port in that step if notify is yes; and no arbiter is read. -/
def Obligations.FenceWithoutDrain : Prop :=
  ∀ (s : State) (p : MPort) (r : CommandRecord) (notify : Bool), Offers s p r →
    parseCommand r = .ok (.fence notify false) →
    ∃ t, exec .fence s = .next t ∧ AnsweredAtOnce s t p r .done ∧
      t.cmd.posts = (if notify then s.cmd.posts ++ [.toPort p .fenceDone] else s.cmd.posts) ∧
      changesOnly s t [.mgmt p, .preference, .executorPosts]

/-- R158, R132: a fence read is answered with the tags of the arbiter's busy slots behind what it has sent before; the
executor adds an answer to the drain set; and after the last one the fence waits, completes at once if the set is empty,
or, where a clear has released its promise, is dropped. That the row of the fence takes the answers is the model's
choice (log entry 9). -/
def Obligations.FenceCapturesDrainSet : Prop :=
  ∀ (s : State) (j : Running) (e : TargetPort) (rest : List Request),
    (Asks s j (.fenceRead e) rest → ∃ t, exec .arbiterRead s = .next t ∧ Taken t j (.fenceAnswer e :: rest) ∧
      t.arb e =
        { s.arb e with
          toExecutor := (s.arb e).toExecutor ++
            [.answer ((slotsWhere s e fun _ => true).map fun x => tagAt s e x.1)] } ∧
      changesOnly s t [.running, .arbiter e]) ∧
    ∀ (tags : List GrantTag) (later : List ExecutorMsg), Asks s j (.fenceAnswer e) rest →
      (s.arb e).toExecutor = .answer tags :: later →
      let m := s.mgmt j.port
      ∃ t, exec .fenceDrain s = .next t ∧ t.arb e = { s.arb e with toExecutor := later } ∧
        (rest ≠ [] → t.cmd.running = some { j with todo := rest, drain := j.drain ++ tags } ∧
          changesOnly s t [.running, .arbiter e]) ∧
        (rest = [] → t.cmd.running = none ∧
          (m.promised = false → changesOnly s t [.running, .arbiter e]) ∧
          (m.promised = true → j.drain ++ tags ≠ [] →
            t.mgmt j.port =
              { m with fence := some { tag := j.tag, kind := j.kind, notify := j.notify, drain := j.drain ++ tags } } ∧
            changesOnly s t [.running, .arbiter e, .mgmt j.port]) ∧
          (m.promised = true → j.drain ++ tags = [] →
            t.mgmt j.port =
              { m with
                fence := none, promised := false
                responses := m.responses ++
                  [{ tag := j.tag, kind := j.kind, status := .done, scope := none, payload := .absent }] } ∧
            t.cmd.posts = (if j.notify then s.cmd.posts ++ [.toPort j.port .fenceDone] else s.cmd.posts) ∧
            changesOnly s t [.running, .arbiter e, .mgmt j.port, .executorPosts]))

/-- R83, R158, R159: the executor takes a retirement report. The tag leaves the drain set of each waiting fence and the
one being captured; a fence whose set that empties is answered DONE in its promised slot, posts FENCE_DONE if notify is
yes, and is removed; a port whose fence does not hold the tag is unchanged, as after an expiry, whose tags have left the sets
already (R28, log entry 24). That port A's FENCE_DONE stands before port B's is the model's choice (log entry 7). -/
def Obligations.RetirementReportDrainsFences : Prop :=
  ∀ (s : State) (e : TargetPort) (tag : GrantTag) (later : List ExecutorMsg), Live s →
    (s.arb e).toExecutor = .retired tag :: later →
    ∃ t, exec (.retirementReport e) s = .next t ∧ t.arb e = { s.arb e with toExecutor := later } ∧
      t.cmd.running = s.cmd.running.map (fun j => { j with drain := j.drain.filter fun y => y ≠ tag }) ∧
      (∀ p, (∀ x ∈ (s.mgmt p).fence, tag ∉ x.drain) → t.mgmt p = s.mgmt p) ∧
      (∀ p x, (s.mgmt p).fence = some x → tag ∈ x.drain →
        ((∃ y ∈ x.drain, y ≠ tag) →
          t.mgmt p = { s.mgmt p with fence := some { x with drain := x.drain.filter fun y => y ≠ tag } }) ∧
        ((∀ y ∈ x.drain, y = tag) →
          t.mgmt p = answered { s.mgmt p with fence := none }
            { tag := x.tag, kind := x.kind, status := .done, scope := none, payload := .absent })) ∧
      t.cmd.posts = s.cmd.posts ++ (fencePosts (s.mgmt .a) .a [tag] ++ fencePosts (s.mgmt .b) .b [tag]) ∧
      changesOnly s t [.arbiter e, .mgmt .a, .mgmt .b, .executorPosts, .running]

/-- R149: RESERVE_LOCK from either port closes the lock and empties the consent set in one step, whether the lock was open or
closed, and is answered DONE. -/
def Obligations.ReserveLockCloses : Prop :=
  ∀ (s : State) (p : MPort) (r : CommandRecord), Offers s p r → parseCommand r = .ok .reserveLock →
    ∃ t, exec .reserveLock s = .next t ∧ AnsweredAtOnce s t p r .done ∧ t.cmd.lockClosed = true ∧
      (∀ q, t.cmd.consent.get q = false) ∧ changesOnly s t [.mgmt p, .preference, .lock, .consent]

/-- R150: RESERVE_UNLOCK. On an open lock nothing but the answer DONE; on a closed one the issuing port joins the consent set, and
the lock opens with the set emptied, answered DONE, when the set holds both ports under SOLO low or port A under SOLO high;
otherwise the lock stays closed, with the consent held, answered CONSENT_HELD. -/
def Obligations.ReserveUnlockNeedsConsent : Prop :=
  ∀ (s : State) (p : MPort) (r : CommandRecord), Offers s p r → parseCommand r = .ok .reserveUnlock →
    let consents : Prop :=
      (s.solo = false ∧ (p = .a ∨ s.cmd.consent.a = true) ∧ (p = .b ∨ s.cmd.consent.b = true)) ∨
      (s.solo = true ∧ (p = .a ∨ s.cmd.consent.a = true))
    (s.cmd.lockClosed = false → ∃ t, exec .reserveUnlock s = .next t ∧ AnsweredAtOnce s t p r .done ∧
      changesOnly s t [.mgmt p, .preference]) ∧
    (s.cmd.lockClosed = true → consents → ∃ t, exec .reserveUnlock s = .next t ∧ AnsweredAtOnce s t p r .done ∧
      t.cmd.lockClosed = false ∧ (∀ q, t.cmd.consent.get q = false) ∧
      changesOnly s t [.mgmt p, .preference, .lock, .consent]) ∧
    (s.cmd.lockClosed = true → ¬ consents → ∃ t, exec .reserveUnlock s = .next t ∧
      AnsweredAtOnce s t p r .consentHeld ∧ t.cmd.lockClosed = true ∧
      (∀ q, t.cmd.consent.get q = (decide (q = p) || s.cmd.consent.get q)) ∧
      changesOnly s t [.mgmt p, .preference, .consent])

/-! ## Requests at the blocks that take them -/

/-- R5, R137, R138: the old arbiter refuses a release while the flow has grants outstanding, and the command ends
REFUSED_BUSY with nothing written or sent; otherwise it gives up the flow and the executor makes the write it owes. The
new arbiter takes the flow with every demand and token field 0. That the flow's fields wait unchanged between the two is
the model's reading (log entry 15), and that the answer reaches the executor, with the write it makes on it, in the step in
which the arbiter takes the release is its choice (log entry 9). -/
def Obligations.FlowMovesBetweenArbiters : Prop :=
  ∀ (s : State) (j : Running) (f : Flow) (e : TargetPort) (v : ArbiterView) (rest : List Request),
    (Asks s j (.release f e) rest →
      (0 < (s.flow f).demand.grantCount → ∃ t, exec .releaseRequest s = .next t ∧
        t.cmd.running = some { j with todo := [], commit := none, status := .refusedBusy } ∧
        changesOnly s t [.running]) ∧
      ((s.flow f).demand.grantCount = 0 → ∃ t, exec .releaseRequest s = .next t ∧
        t.cmd.running = some { j with todo := rest, commit := none } ∧ t.flow f = { s.flow f with holder := none } ∧
        t.cmd.flows = (afterCommit s.cmd).flows ∧ t.cmd.ports = (afterCommit s.cmd).ports ∧
        changesOnly s t [.running, .held f, .flowConfigs, .portConfigs])) ∧
    (Asks s j (.flowTake f e v) rest → ∃ t, exec .flowTakeRequest s = .next t ∧ Taken t j rest ∧
      t.flow f =
        { holder := some e, view := v
          demand := { backlog := 0, flush := false, outstanding := 0, grantCount := 0, balance := 0, delivered := 0 } } ∧
      changesOnly s t [.running, .held f])

/-- R13, R20, R29, R138, R143: an arbiter takes new flow fields, with the balance lowered to the new burst cap; a clearing request,
with balance, backlog and flush mark cleared; and new port fields, with the budget lowered, for a changed capacity, to that
capacity less the cells granted since the last close, or to 0. -/
def Obligations.ArbiterTakesConfiguration : Prop :=
  ∀ (s : State) (j : Running) (rest : List Request),
    (∀ f v, Asks s j (.flowConfig f v) rest → ∃ t, exec .flowConfigRequest s = .next t ∧ Taken t j rest ∧
      t.flow f =
        { s.flow f with
          view := v, demand := { (s.flow f).demand with balance := min (s.flow f).demand.balance v.burstCap } } ∧
      changesOnly s t [.running, .held f]) ∧
    (∀ f, Asks s j (.clearing f) rest → ∃ t, exec .clearingRequest s = .next t ∧ Taken t j rest ∧
      t.flow f =
        { s.flow f with demand := { (s.flow f).demand with balance := 0, backlog := 0, flush := false } } ∧
      changesOnly s t [.running, .held f]) ∧
    (∀ e v, Asks s j (.port e v) rest → ∃ t, exec .portRequest s = .next t ∧ Taken t j rest ∧
      t.arb e =
        { s.arb e with
          view := v
          budget :=
            if v.capacity = (s.arb e).view.capacity then (s.arb e).budget
            else if v.capacity < (s.arb e).granted then 0
            else if (s.arb e).budget ≤ v.capacity - (s.arb e).granted then (s.arb e).budget
            else v.capacity - (s.arb e).granted } ∧
      changesOnly s t [.running, .arbiter e])

/-- R138, R139, R145: the Link Interface takes a flow's target port, and a host port record. -/
def Obligations.LinkInterfaceTakesViews : Prop :=
  ∀ (s : State) (j : Running) (rest : List Request),
    (∀ f e, Asks s j (.targetPort f e) rest → ∃ t, exec .targetPortRequest s = .next t ∧ Taken t j rest ∧
      (∀ g, Table.get t.link.flowPort g = if g = f then e else Table.get s.link.flowPort g) ∧
      changesOnly s t [.running, .flowPortViews]) ∧
    (∀ h x, Asks s j (.hostport h x) rest → ∃ t, exec .hostportRequest s = .next t ∧ Taken t j rest ∧
      (∀ g, Table.get t.link.hosts g = if g = h then x else Table.get s.link.hosts g) ∧
      changesOnly s t [.running, .hostViews])

/-- R17, R18, R20, R140: an enable makes the START entry for an OFF flow and leaves another as it is; a disable makes the OFF
entry in any state, and its clearing request is then before the flow's arbiter. -/
def Obligations.FlowModeAtRateEngine : Prop :=
  ∀ (s : State) (j : Running) (f : Flow) (rest : List Request),
    (Asks s j (.startEntry f) rest → ∃ t, exec .startEntry s = .next t ∧ Taken t j rest ∧
      (Off s f →
        t.rflow f =
          { s.rflow f with
            ctl :=
              { (s.rflow f).ctl with
                state := .start, rate := (s.rflow f).view.floor, integrator := 0, startCount := 0
                saturation := .none } } ∧
        changesOnly s t [.running, .rateFlow f]) ∧
      (¬ Off s f → changesOnly s t [.running])) ∧
    (Asks s j (.offEntry f) rest → ∃ t, exec .offEntry s = .next t ∧ Taken t j rest ∧
      (∀ later, rest = .clearing f :: later → Asks t { j with todo := rest } (.clearing f) later) ∧
      t.rflow f =
        { s.rflow f with ctl := { (s.rflow f).ctl with state := .off, rate := 0, integrator := 0 } } ∧
      changesOnly s t [.running, .rateFlow f])

/-- R4, R7, R8, R138, R143: a bound request gives the Rate Engine the flow's new view and clamps the rate of a flow not OFF, and the
integrator, into it; a capacity request gives it the port's capacity and lowers the rates above it of the port's flows that
are not OFF. -/
def Obligations.RateEngineTakesBounds : Prop :=
  ∀ (s : State) (j : Running) (rest : List Request),
    (∀ f v, Asks s j (.bound f v) rest →
      v.floor ≤ v.ceiling → v.floor ≤ Table.get s.rate.capacity v.port →
      ∃ t, exec .boundRequest s = .next t ∧ Taken t j rest ∧
        (t.rflow f).view = v ∧
        (Off s f → (t.rflow f).ctl.rate = (s.rflow f).ctl.rate) ∧
        (¬ Off s f →
          ((s.rflow f).ctl.rate < v.floor → (t.rflow f).ctl.rate = v.floor) ∧
          (v.floor ≤ (s.rflow f).ctl.rate →
            (t.rflow f).ctl.rate = min (s.rflow f).ctl.rate (min v.ceiling (Table.get s.rate.capacity v.port)))) ∧
        (let clamp : Int := (Table.get s.rate.profiles v.profile).integratorClamp
         (t.rflow f).ctl.integrator = max (-clamp) (min clamp (s.rflow f).ctl.integrator)) ∧
        (t.rflow f).ctl =
          { (s.rflow f).ctl with rate := (t.rflow f).ctl.rate, integrator := (t.rflow f).ctl.integrator } ∧
        changesOnly s t [.running, .rateFlow f]) ∧
    (∀ e c, Asks s j (.capacity e c) rest → ∃ t, exec .capacityRequest s = .next t ∧ Taken t j rest ∧
      (∀ k, Table.get t.rate.capacity k = if k = e then c else Table.get s.rate.capacity k) ∧
      (∀ f, t.rflow f =
        if (s.rflow f).view.port = e ∧ ¬ Off s f then
          { s.rflow f with ctl := { (s.rflow f).ctl with rate := min (s.rflow f).ctl.rate c } }
        else s.rflow f) ∧
      changesOnly s t (.running :: .capacities :: allRateFlows))

/-- R8, R24, R146: a profile request writes the fields it names and leaves the others, and where it lowers the integrator clamp,
clamps the integrators of the flows that name the profile in the same step. -/
def Obligations.ProfileWritten : Prop :=
  ∀ (s : State) (j : Running) (i : ProfileIx) (w : ProfileWrite) (rest : List Request), Asks s j (.profile i w) rest →
    let old := Table.get s.rate.profiles i
    ∃ t, exec .profileRequest s = .next t ∧ Taken t j rest ∧
      Table.get t.rate.profiles i =
        { kp := w.kp.getD old.kp, kpShift := w.kpShift.getD old.kpShift, ki := w.ki.getD old.ki
          kiShift := w.kiShift.getD old.kiShift, positiveClamp := w.positiveClamp.getD old.positiveClamp
          negativeClamp := w.negativeClamp.getD old.negativeClamp, startClamp := w.startClamp.getD old.startClamp
          integratorClamp := w.integratorClamp.getD old.integratorClamp, startStep := w.startStep.getD old.startStep
          startHold := w.startHold.getD old.startHold, windupStop := w.windupStop.getD old.windupStop } ∧
      (∀ k, k ≠ i → Table.get t.rate.profiles k = Table.get s.rate.profiles k) ∧
      (∀ f, t.rflow f =
        if w.integratorClamp.getD old.integratorClamp < old.integratorClamp ∧ (s.rflow f).view.profile = i then
          { s.rflow f with
            ctl :=
              { (s.rflow f).ctl with
                integrator :=
                  max (-(w.integratorClamp.getD old.integratorClamp : Int))
                    (min (w.integratorClamp.getD old.integratorClamp : Int) (s.rflow f).ctl.integrator) } }
        else s.rflow f) ∧
      changesOnly s t (.running :: .profiles :: allRateFlows)

/-- R153 to R155: a reshape reaches the flows in scope that are START or RUN and no other. RESTART gives them the START entry
values, FREEZE and THAW the flag; and the performed scope is NONE when there is no such flow. -/
def Obligations.ReshapeReachesFlowsInService : Prop :=
  ∀ (s : State) (j : Running) (x : Scope) (a : Action) (rest : List Request), Asks s j (.reshape x a) rest →
    ∃ t, exec .reshapeRequest s = .next t ∧
      t.cmd.running =
        some { j with
          todo := rest
          scope := some
            (if ∃ f, covers s x f = true ∧ ¬ Off s f then
              match x with
              | .flowset _ _ => .flowset
              | .group _ => .group
              | .port _ => .port
              | .all => .all
            else .none) } ∧
      (∀ f, covers s x f = false ∨ Off s f → t.rflow f = s.rflow f) ∧
      (∀ f, covers s x f = true → ¬ Off s f →
        (t.rflow f).view = (s.rflow f).view ∧
        (t.rflow f).ctl =
          match a with
          | .restart =>
            { (s.rflow f).ctl with
              state := .start, rate := (s.rflow f).view.floor, integrator := 0, startCount := 0, saturation := .none }
          | .freeze => { (s.rflow f).ctl with frozen := true }
          | .thaw => { (s.rflow f).ctl with frozen := false }) ∧
      changesOnly s t (.running :: allRateFlows)

/-- R111, R112, R115, R143: a monitor refuses an enable while its link is DOWN, with nothing written; otherwise it takes the
enable and the threshold, each where named, and the executor makes the write it owes. It refuses a trip clear while the
level is at or above the threshold, and clears the flag otherwise. That the answer reaches the executor, with the write it
makes on it, in the step in which the monitor takes the request is the model's choice (log entry 9). -/
def Obligations.MonitorTakesRequests : Prop :=
  ∀ (s : State) (j : Running) (e : TargetPort) (rest : List Request),
    (∀ enable threshold, Asks s j (.monitor e enable threshold) rest →
      (enable = some true → (s.mon e).linkUp = false → ∃ t, exec .monitorRequest s = .next t ∧
        t.cmd.running = some { j with todo := [], commit := none, status := .refusedLinkdown } ∧
        changesOnly s t [.running]) ∧
      (enable ≠ some true ∨ (s.mon e).linkUp = true → ∃ t, exec .monitorRequest s = .next t ∧
        t.cmd.running = some { j with todo := rest, commit := none } ∧
        t.mon e =
          { s.mon e with
            enable := enable.getD (s.mon e).enable, threshold := threshold.getD (s.mon e).threshold } ∧
        t.cmd.flows = (afterCommit s.cmd).flows ∧ t.cmd.ports = (afterCommit s.cmd).ports ∧
        changesOnly s t [.running, .monitor e, .flowConfigs, .portConfigs])) ∧
    (Asks s j (.tripClear e) rest →
      ((s.mon e).threshold ≤ (s.mon e).level → ∃ t, exec .tripClearRequest s = .next t ∧
        t.cmd.running = some { j with todo := [], commit := none, status := .refusedTripped } ∧
        changesOnly s t [.running]) ∧
      ((s.mon e).level < (s.mon e).threshold → ∃ t, exec .tripClearRequest s = .next t ∧ Taken t j rest ∧
        t.mon e = { s.mon e with tripFlag := false } ∧ changesOnly s t [.running, .monitor e]))

/-- R164, R167: the unit takes a read, a clear of one record or of all with the overflow flag, a mask write and an
acknowledgement; each touches nothing else, and the last two only the issuing port. That the command's own row takes its
request is the model's choice (log entry 9). -/
def Obligations.UnitTakesRequests : Prop :=
  ∀ (s : State) (j : Running) (rest : List Request),
    (∀ i, Asks s j (.faultRead i) rest → ∃ t, exec .faultRead s = .next t ∧
      t.cmd.running = some { j with todo := rest, payload := .fault (Table.get s.unit.table i) s.unit.overflow } ∧
      changesOnly s t [.running]) ∧
    (∀ i, Asks s j (.faultClear i) rest → ∃ t, exec .faultClear s = .next t ∧ Taken t j rest ∧
      (∀ k, Table.get t.unit.table k = if k = i then none else Table.get s.unit.table k) ∧
      changesOnly s t [.running, .faultTable]) ∧
    (Asks s j .faultClearAll rest → ∃ t, exec .faultClearAll s = .next t ∧ Taken t j rest ∧
      (∀ k, Table.get t.unit.table k = none) ∧ t.unit.overflow = false ∧
      changesOnly s t [.running, .faultTable, .overflow]) ∧
    (∀ x, Asks s j (.eventMask x) rest → ∃ t, exec .eventMask s = .next t ∧ Taken t j rest ∧
      t.unit.mask.get j.port = x ∧ changesOnly s t [.running, .mask j.port]) ∧
    (∀ x, Asks s j (.eventAck x) rest → ∃ t, exec .eventAck s = .next t ∧ Taken t j rest ∧
      (∀ k, (t.unit.pending.get j.port).has k = ((s.unit.pending.get j.port).has k && !x.has k)) ∧
      changesOnly s t [.running, .causes j.port])

/-- R87, R118, R141, R144: each read request of a FLOW_READ or PORT_READ puts the answering block's fields, as it holds
them, into the payload, and changes nothing else. That the command's own row takes its requests is the model's choice
(log entry 9). -/
def Obligations.ReadsTakeEachPart : Prop :=
  ∀ (s : State) (j : Running) (rest : List Request),
    (∀ f x, Asks s j (.readController f) rest → j.payload = .flow x → ∃ t, exec .flowRead s = .next t ∧
      t.cmd.running = some { j with todo := rest, payload := .flow { x with ctl := (s.rflow f).ctl } } ∧
      changesOnly s t [.running]) ∧
    (∀ f x, Asks s j (.readDemand f) rest → j.payload = .flow x → ∃ t, exec .flowRead s = .next t ∧
      t.cmd.running = some { j with todo := rest, payload := .flow { x with demand := (s.flow f).demand } } ∧
      changesOnly s t [.running]) ∧
    (∀ e x, Asks s j (.readTripped e) rest → j.payload = .flow x → ∃ t, exec .flowRead s = .next t ∧
      t.cmd.running =
        some { j with
          todo := rest, payload := .flow { x with tripped := x.config.tripEnable && (s.mon e).tripFlag } } ∧
      changesOnly s t [.running]) ∧
    (∀ e x, Asks s j (.readCondition e) rest → j.payload = .port x → ∃ t, exec .portRead s = .next t ∧
      t.cmd.running =
        some { j with
          todo := rest
          payload := .port { x with
            condition :=
              { enable := (s.mon e).enable, linkUp := (s.mon e).linkUp, level := (s.mon e).level
                threshold := (s.mon e).threshold, tripFlag := (s.mon e).tripFlag } } } ∧
      changesOnly s t [.running]) ∧
    (∀ e x, Asks s j (.readBudget e) rest → j.payload = .port x → ∃ t, exec .portRead s = .next t ∧
      t.cmd.running = some { j with todo := rest, payload := .port { x with budget := (s.arb e).budget } } ∧
      changesOnly s t [.running]) ∧
    (∀ e upper, Asks s j (.readSlots e upper) rest → ∃ t, exec .portRead s = .next t ∧
      (∃ xs, t.cmd.running = some { j with todo := rest, payload := .slots xs } ∧ xs.length = 4 ∧
        ∀ n : Slot, (4 ≤ n.val ↔ upper = true) → xs[n.val % 4]? = some (Table.get (s.arb e).slots n)) ∧
      changesOnly s t [.running])

/-! ## Record formats -/

/-- R168, R169, R89, R97, R107: a BACKLOG, DONE or TSTAT record built from fields, with anything in its unused bits, reads back as
those fields, and passes its check; and a record that differs from one that passes in a single bit does not pass. -/
def Obligations.LinkRecordsReadBack : Prop :=
  (∀ (tag : GrantTag) (k : Fin 65536) (mark : Bool) (high : Fin 16) (m : Fin 128) (unused : Byte),
    let r := withCheck 2 (byteOf (high.val * 16 + tagNumber tag / 256)) (byteOf (tagNumber tag)) (byteOf (k.val / 256))
      (byteOf k.val) (byteOf (m.val * 2 + if mark then 1 else 0)) unused
    checkPasses r = true ∧ doneFields r = { tag := tag, cells := k.val, endMark := mark }) ∧
  (∀ (e : TargetPort) (up : Bool) (level : Fin 4) (i : Fin 32) (k : Fin 128) (m : Fin 64) (u v w : Byte),
    let r := withCheck 3 (byteOf (i.val * 8 + e.val)) (byteOf (k.val * 2 + if up then 1 else 0))
      (byteOf (m.val * 4 + level.val)) u v w
    checkPasses r = true ∧ tstatFields r = { port := e, up := up, level := level.val }) ∧
  (∀ (host : Fin 32) (tag : Fin 4) (valid flush : Bool) (e : TargetPort) (n : Fin 65536) (i : Fin 16) (u v : Byte),
    let r := withCheck 1 (byteOf (host.val * 8 + tag.val * 2 + if valid then 1 else 0))
      (byteOf ((if flush then 128 else 0) + i.val * 8 + e.val)) (byteOf (n.val / 256)) (byteOf n.val) u v
    checkPasses r = true ∧
    backlogFields r = { host := host.val, tag := tag, tagValid := valid, port := e, cells := n.val, flush := flush }) ∧
  ∀ (r : LinkRecord) (i : Fin 8) (b : Fin 8), checkPasses r = true →
    checkPasses (r.set i.val (r[i.val] ^^^ (1#8 <<< b.val)) i.isLt) = false

/-! ## Invariants -/

/-- R123: queues bounded, responses and promise together at most 16, at most one fence and one promise for each port, and the
promise owed to its command in execution or its waiting fence; and under SOLO high port B has nothing (R130). Every step
keeps both. -/
def Obligations.StepKeepsQueues : Prop :=
  ∀ s t : State, step s = .next t →
    (QueuesOk s → QueuesOk t) ∧ (QueuesOk s → PortBAbsent s → PortBAbsent t)

/-- Five invariants, each of which every step keeps. R161: no two fault records share kind, flow and target port, and repeat counts
are from 1 to 255. R30, R32: the tally queue holds at most one tally for each port, and the entries of every tally stand in
flow order, none twice. R29: while any budget is left, the cells granted since the last close and the budget are together
within the capacity; and no step but the close itself and a power-on reset raises the two together, and but for a change of
the port's fields no step lowers them. R170, R117: the counts of the Link Interface stay in range, a DOWN link holds no unsent
record, and when the link comes UP every target port is DOWN (log entry 28). R13: every token balance is within its burst cap,
and 0 for an OFF flow once its clearing request has been taken. -/
def Obligations.StepKeepsBlockInvariants : Prop :=
  ∀ s t : State, step s = .next t →
    (FaultTableOk s → FaultTableOk t) ∧ (TalliesOk s → TalliesOk t) ∧ (BudgetsOk s → BudgetsOk t) ∧
    (∀ e, s.pending.head? ≠ some (.arbiterEpochExpiry e) → s.pending.head? ≠ some .powerOnReset →
      (t.arb e).granted + (t.arb e).budget ≤ (s.arb e).granted + (s.arb e).budget ∧
      (s.pending.head? ≠ some .portRequest →
        (t.arb e).granted + (t.arb e).budget = (s.arb e).granted + (s.arb e).budget)) ∧
    (LinkOk s → LinkOk t ∧
      (s.link.up = false → t.link.up = true → ∀ e, (t.mon e).linkUp = false ∧ (t.mon e).enable = false)) ∧
    (BalancesOk s → BalancesOk t)

/-- R4, R142: every floor within its ceiling, the floors naming a port within its reserve, and the reserve within the capacity.
Every step keeps it. -/
def Obligations.StepKeepsReserveArithmetic : Prop :=
  ∀ s t : State, ConfigurationOk s → step s = .next t → ConfigurationOk t

/-- R148: while the reserve lock is closed, no command but the power-on reset changes a floor or a reserve; and every step keeps
the invariant that the command in execution owes no such write. -/
def Obligations.ClosedLockGuardsFloorsAndReserves : Prop :=
  ∀ s t : State, LockOk s → step s = .next t →
    LockOk t ∧ (s.cmd.lockClosed = true → s.pending.head? ≠ some .powerOnReset → SameGuarded s.cmd t.cmd)

/-- R2, R138, R143: the Rate Engine's view of flows and capacities is the executor's, or the request that makes it so is still to
be taken. Every step keeps it. -/
def Obligations.StepKeepsViews : Prop :=
  ∀ s t : State, ViewsOk s → step s = .next t → ViewsOk t

/-- R7, R8: the refill rate of every flow lies within its bounds, an OFF flow's rate and integrator are 0, and every integrator is
within its profile's clamp. Every step keeps it, given the invariants of R142 and of the views. -/
def Obligations.StepKeepsControllerBounds : Prop :=
  ∀ s t : State, ConfigurationOk s → ViewsOk s → ControllersOk s → step s = .next t → ControllersOk t

/-- R12, R69: every outstanding grant has a remaining count between 1 and its issued count, and each flow's outstanding cells and
grant count are those of its grants. Every step keeps it. -/
def Obligations.StepKeepsGrantAccounts : Prop :=
  ∀ s t : State, GrantsOk s → step s = .next t → GrantsOk t

/-- Every invariant above holds of State.reset. -/
def Obligations.ResetMeetsEveryInvariant : Prop :=
  QueuesOk State.reset ∧ PortBAbsent State.reset ∧ FaultTableOk State.reset ∧ TalliesOk State.reset ∧
  BudgetsOk State.reset ∧ LinkOk State.reset ∧ ConfigurationOk State.reset ∧ LockOk State.reset ∧ ViewsOk State.reset ∧
  ControllersOk State.reset ∧ GrantsOk State.reset ∧ BalancesOk State.reset
end

