-- ==== Sys2Proof/Laws/Table.lean ====
section
/-! SUPPORT. The laws of tables and of pairs with one value for each management port. -/

namespace Sys2Proof

variable {α : Type} {n : Nat}

/-- Reading the entry just written. -/
@[simp] theorem Table.get_put_self (t : Table α n) (i : Fin n) (a : α) : Table.get (Table.put t i a) i = a := by
  simp [Table.get, Table.put]

/-- Reading another entry than the one written. -/
theorem Table.get_put_ne (t : Table α n) {i j : Fin n} (a : α) (h : j ≠ i) :
    Table.get (Table.put t i a) j = Table.get t j := by
  simp only [Table.get, Table.put]
  exact Vector.getElem_set_ne _ _ (fun he => h (Fin.ext he.symm))

/-- Reading any entry after one is written. -/
theorem Table.get_put (t : Table α n) (i j : Fin n) (a : α) :
    Table.get (Table.put t i a) j = if j = i then a else Table.get t j := by
  by_cases h : j = i
  · subst h; simp
  · rw [Table.get_put_ne t a h, if_neg h]

/-- Reading an entry of a table given by a function. -/
@[simp] theorem Table.get_tab (f : Fin n → α) (i : Fin n) : Table.get (Table.tab f) i = f i := by
  simp [Table.get, Table.tab]

/-- Reading an entry of a constant table. -/
@[simp] theorem Table.get_const (a : α) (i : Fin n) : Table.get (Table.const n a) i = a := by
  simp [Table.const]

/-- Two tables with the same entries are equal. -/
theorem Table.ext_get {t u : Table α n} (h : ∀ i, Table.get t i = Table.get u i) : t = u := by
  apply Vector.ext
  intro i hi
  exact h ⟨i, hi⟩

/-- Writing back the entry that is there changes nothing. -/
@[simp] theorem Table.put_get (t : Table α n) (i : Fin n) : Table.put t i (Table.get t i) = t := by
  apply Table.ext_get
  intro j
  rw [Table.get_put]
  split
  · next h => rw [h]
  · rfl

/-- Reading the value just written for a port. -/
@[simp] theorem PerPort.get_put_self (x : PerPort α) (p : MPort) (v : α) : (x.put p v).get p = v := by
  cases p <;> rfl

/-- Reading any port's value after one is written. -/
theorem PerPort.get_put (x : PerPort α) (p q : MPort) (v : α) :
    (x.put p v).get q = if q = p then v else x.get q := by
  cases p <;> cases q <;> rfl

/-- Reading a value that is the same at both ports. -/
@[simp] theorem PerPort.get_both (v : α) (p : MPort) : (PerPort.both v).get p = v := by cases p <;> rfl

/-- The other port of the other port. -/
@[simp] theorem MPort.other_other (p : MPort) : p.other.other = p := by cases p <;> rfl

/-- A port is never its other port. -/
@[simp] theorem MPort.other_ne (p : MPort) : p.other ≠ p := by cases p <;> decide

end Sys2Proof
end

