-- ==== Sys2Proof/Laws/State.lean ====
section
/-! SUPPORT. What each field of the state, and each record of a block, reads as after each update: one lemma for each
field and update. -/

namespace Sys2Proof.Machine

variable (s : State)


/-! ## withLink -/

@[simp] theorem State.withLink_resetLow (x : LinkInterface) : (s.withLink x).resetLow = s.resetLow := rfl
@[simp] theorem State.withLink_solo (x : LinkInterface) : (s.withLink x).solo = s.solo := rfl
@[simp] theorem State.withLink_timer (x : LinkInterface) : (s.withLink x).timer = s.timer := rfl
@[simp] theorem State.withLink_link (x : LinkInterface) : (s.withLink x).link = x := rfl
@[simp] theorem State.withLink_monitors (x : LinkInterface) : (s.withLink x).monitors = s.monitors := rfl
@[simp] theorem State.withLink_arbiters (x : LinkInterface) : (s.withLink x).arbiters = s.arbiters := rfl
@[simp] theorem State.withLink_held (x : LinkInterface) : (s.withLink x).held = s.held := rfl
@[simp] theorem State.withLink_rate (x : LinkInterface) : (s.withLink x).rate = s.rate := rfl
@[simp] theorem State.withLink_cmd (x : LinkInterface) : (s.withLink x).cmd = s.cmd := rfl
@[simp] theorem State.withLink_unit (x : LinkInterface) : (s.withLink x).unit = s.unit := rfl
@[simp] theorem State.withLink_pending (x : LinkInterface) : (s.withLink x).pending = s.pending := rfl
@[simp] theorem State.withLink_arb (x : LinkInterface) (e : TargetPort) : (s.withLink x).arb e = s.arb e := rfl
@[simp] theorem State.withLink_mon (x : LinkInterface) (e : TargetPort) : (s.withLink x).mon e = s.mon e := rfl
@[simp] theorem State.withLink_flow (x : LinkInterface) (f : Flow) : (s.withLink x).flow f = s.flow f := rfl
@[simp] theorem State.withLink_rflow (x : LinkInterface) (f : Flow) : (s.withLink x).rflow f = s.rflow f := rfl
@[simp] theorem State.withLink_mgmt (x : LinkInterface) (p : MPort) : (s.withLink x).mgmt p = s.mgmt p := rfl
@[simp] theorem State.withLink_isOff (x : LinkInterface) (f : Flow) : (s.withLink x).isOff f = s.isOff f := rfl
@[simp] theorem State.withLink_fitted (x : LinkInterface) (p : MPort) : (s.withLink x).fitted p = s.fitted p := rfl

/-! ## withMonitors -/

@[simp] theorem State.withMonitors_resetLow (x : Table Monitor 8) : (s.withMonitors x).resetLow = s.resetLow := rfl
@[simp] theorem State.withMonitors_solo (x : Table Monitor 8) : (s.withMonitors x).solo = s.solo := rfl
@[simp] theorem State.withMonitors_timer (x : Table Monitor 8) : (s.withMonitors x).timer = s.timer := rfl
@[simp] theorem State.withMonitors_link (x : Table Monitor 8) : (s.withMonitors x).link = s.link := rfl
@[simp] theorem State.withMonitors_monitors (x : Table Monitor 8) : (s.withMonitors x).monitors = x := rfl
@[simp] theorem State.withMonitors_arbiters (x : Table Monitor 8) : (s.withMonitors x).arbiters = s.arbiters := rfl
@[simp] theorem State.withMonitors_held (x : Table Monitor 8) : (s.withMonitors x).held = s.held := rfl
@[simp] theorem State.withMonitors_rate (x : Table Monitor 8) : (s.withMonitors x).rate = s.rate := rfl
@[simp] theorem State.withMonitors_cmd (x : Table Monitor 8) : (s.withMonitors x).cmd = s.cmd := rfl
@[simp] theorem State.withMonitors_unit (x : Table Monitor 8) : (s.withMonitors x).unit = s.unit := rfl
@[simp] theorem State.withMonitors_pending (x : Table Monitor 8) : (s.withMonitors x).pending = s.pending := rfl
@[simp] theorem State.withMonitors_arb (x : Table Monitor 8) (e : TargetPort) : (s.withMonitors x).arb e = s.arb e := rfl
@[simp] theorem State.withMonitors_flow (x : Table Monitor 8) (f : Flow) : (s.withMonitors x).flow f = s.flow f := rfl
@[simp] theorem State.withMonitors_rflow (x : Table Monitor 8) (f : Flow) : (s.withMonitors x).rflow f = s.rflow f := rfl
@[simp] theorem State.withMonitors_mgmt (x : Table Monitor 8) (p : MPort) : (s.withMonitors x).mgmt p = s.mgmt p := rfl
@[simp] theorem State.withMonitors_isOff (x : Table Monitor 8) (f : Flow) : (s.withMonitors x).isOff f = s.isOff f := rfl
@[simp] theorem State.withMonitors_fitted (x : Table Monitor 8) (p : MPort) : (s.withMonitors x).fitted p = s.fitted p := rfl

/-! ## withArbiters -/

@[simp] theorem State.withArbiters_resetLow (x : Table Arbiter 8) : (s.withArbiters x).resetLow = s.resetLow := rfl
@[simp] theorem State.withArbiters_solo (x : Table Arbiter 8) : (s.withArbiters x).solo = s.solo := rfl
@[simp] theorem State.withArbiters_timer (x : Table Arbiter 8) : (s.withArbiters x).timer = s.timer := rfl
@[simp] theorem State.withArbiters_link (x : Table Arbiter 8) : (s.withArbiters x).link = s.link := rfl
@[simp] theorem State.withArbiters_monitors (x : Table Arbiter 8) : (s.withArbiters x).monitors = s.monitors := rfl
@[simp] theorem State.withArbiters_arbiters (x : Table Arbiter 8) : (s.withArbiters x).arbiters = x := rfl
@[simp] theorem State.withArbiters_held (x : Table Arbiter 8) : (s.withArbiters x).held = s.held := rfl
@[simp] theorem State.withArbiters_rate (x : Table Arbiter 8) : (s.withArbiters x).rate = s.rate := rfl
@[simp] theorem State.withArbiters_cmd (x : Table Arbiter 8) : (s.withArbiters x).cmd = s.cmd := rfl
@[simp] theorem State.withArbiters_unit (x : Table Arbiter 8) : (s.withArbiters x).unit = s.unit := rfl
@[simp] theorem State.withArbiters_pending (x : Table Arbiter 8) : (s.withArbiters x).pending = s.pending := rfl
@[simp] theorem State.withArbiters_mon (x : Table Arbiter 8) (e : TargetPort) : (s.withArbiters x).mon e = s.mon e := rfl
@[simp] theorem State.withArbiters_flow (x : Table Arbiter 8) (f : Flow) : (s.withArbiters x).flow f = s.flow f := rfl
@[simp] theorem State.withArbiters_rflow (x : Table Arbiter 8) (f : Flow) : (s.withArbiters x).rflow f = s.rflow f := rfl
@[simp] theorem State.withArbiters_mgmt (x : Table Arbiter 8) (p : MPort) : (s.withArbiters x).mgmt p = s.mgmt p := rfl
@[simp] theorem State.withArbiters_isOff (x : Table Arbiter 8) (f : Flow) : (s.withArbiters x).isOff f = s.isOff f := rfl
@[simp] theorem State.withArbiters_fitted (x : Table Arbiter 8) (p : MPort) : (s.withArbiters x).fitted p = s.fitted p := rfl

/-! ## withHeld -/

@[simp] theorem State.withHeld_resetLow (x : Table ArbiterFlow 96) : (s.withHeld x).resetLow = s.resetLow := rfl
@[simp] theorem State.withHeld_solo (x : Table ArbiterFlow 96) : (s.withHeld x).solo = s.solo := rfl
@[simp] theorem State.withHeld_timer (x : Table ArbiterFlow 96) : (s.withHeld x).timer = s.timer := rfl
@[simp] theorem State.withHeld_link (x : Table ArbiterFlow 96) : (s.withHeld x).link = s.link := rfl
@[simp] theorem State.withHeld_monitors (x : Table ArbiterFlow 96) : (s.withHeld x).monitors = s.monitors := rfl
@[simp] theorem State.withHeld_arbiters (x : Table ArbiterFlow 96) : (s.withHeld x).arbiters = s.arbiters := rfl
@[simp] theorem State.withHeld_held (x : Table ArbiterFlow 96) : (s.withHeld x).held = x := rfl
@[simp] theorem State.withHeld_rate (x : Table ArbiterFlow 96) : (s.withHeld x).rate = s.rate := rfl
@[simp] theorem State.withHeld_cmd (x : Table ArbiterFlow 96) : (s.withHeld x).cmd = s.cmd := rfl
@[simp] theorem State.withHeld_unit (x : Table ArbiterFlow 96) : (s.withHeld x).unit = s.unit := rfl
@[simp] theorem State.withHeld_pending (x : Table ArbiterFlow 96) : (s.withHeld x).pending = s.pending := rfl
@[simp] theorem State.withHeld_arb (x : Table ArbiterFlow 96) (e : TargetPort) : (s.withHeld x).arb e = s.arb e := rfl
@[simp] theorem State.withHeld_mon (x : Table ArbiterFlow 96) (e : TargetPort) : (s.withHeld x).mon e = s.mon e := rfl
@[simp] theorem State.withHeld_rflow (x : Table ArbiterFlow 96) (f : Flow) : (s.withHeld x).rflow f = s.rflow f := rfl
@[simp] theorem State.withHeld_mgmt (x : Table ArbiterFlow 96) (p : MPort) : (s.withHeld x).mgmt p = s.mgmt p := rfl
@[simp] theorem State.withHeld_isOff (x : Table ArbiterFlow 96) (f : Flow) : (s.withHeld x).isOff f = s.isOff f := rfl
@[simp] theorem State.withHeld_fitted (x : Table ArbiterFlow 96) (p : MPort) : (s.withHeld x).fitted p = s.fitted p := rfl

/-! ## withRate -/

@[simp] theorem State.withRate_resetLow (x : RateEngine) : (s.withRate x).resetLow = s.resetLow := rfl
@[simp] theorem State.withRate_solo (x : RateEngine) : (s.withRate x).solo = s.solo := rfl
@[simp] theorem State.withRate_timer (x : RateEngine) : (s.withRate x).timer = s.timer := rfl
@[simp] theorem State.withRate_link (x : RateEngine) : (s.withRate x).link = s.link := rfl
@[simp] theorem State.withRate_monitors (x : RateEngine) : (s.withRate x).monitors = s.monitors := rfl
@[simp] theorem State.withRate_arbiters (x : RateEngine) : (s.withRate x).arbiters = s.arbiters := rfl
@[simp] theorem State.withRate_held (x : RateEngine) : (s.withRate x).held = s.held := rfl
@[simp] theorem State.withRate_rate (x : RateEngine) : (s.withRate x).rate = x := rfl
@[simp] theorem State.withRate_cmd (x : RateEngine) : (s.withRate x).cmd = s.cmd := rfl
@[simp] theorem State.withRate_unit (x : RateEngine) : (s.withRate x).unit = s.unit := rfl
@[simp] theorem State.withRate_pending (x : RateEngine) : (s.withRate x).pending = s.pending := rfl
@[simp] theorem State.withRate_arb (x : RateEngine) (e : TargetPort) : (s.withRate x).arb e = s.arb e := rfl
@[simp] theorem State.withRate_mon (x : RateEngine) (e : TargetPort) : (s.withRate x).mon e = s.mon e := rfl
@[simp] theorem State.withRate_flow (x : RateEngine) (f : Flow) : (s.withRate x).flow f = s.flow f := rfl
@[simp] theorem State.withRate_mgmt (x : RateEngine) (p : MPort) : (s.withRate x).mgmt p = s.mgmt p := rfl
@[simp] theorem State.withRate_fitted (x : RateEngine) (p : MPort) : (s.withRate x).fitted p = s.fitted p := rfl

/-! ## withCmd -/

@[simp] theorem State.withCmd_resetLow (x : Executor) : (s.withCmd x).resetLow = s.resetLow := rfl
@[simp] theorem State.withCmd_solo (x : Executor) : (s.withCmd x).solo = s.solo := rfl
@[simp] theorem State.withCmd_timer (x : Executor) : (s.withCmd x).timer = s.timer := rfl
@[simp] theorem State.withCmd_link (x : Executor) : (s.withCmd x).link = s.link := rfl
@[simp] theorem State.withCmd_monitors (x : Executor) : (s.withCmd x).monitors = s.monitors := rfl
@[simp] theorem State.withCmd_arbiters (x : Executor) : (s.withCmd x).arbiters = s.arbiters := rfl
@[simp] theorem State.withCmd_held (x : Executor) : (s.withCmd x).held = s.held := rfl
@[simp] theorem State.withCmd_rate (x : Executor) : (s.withCmd x).rate = s.rate := rfl
@[simp] theorem State.withCmd_cmd (x : Executor) : (s.withCmd x).cmd = x := rfl
@[simp] theorem State.withCmd_unit (x : Executor) : (s.withCmd x).unit = s.unit := rfl
@[simp] theorem State.withCmd_pending (x : Executor) : (s.withCmd x).pending = s.pending := rfl
@[simp] theorem State.withCmd_arb (x : Executor) (e : TargetPort) : (s.withCmd x).arb e = s.arb e := rfl
@[simp] theorem State.withCmd_mon (x : Executor) (e : TargetPort) : (s.withCmd x).mon e = s.mon e := rfl
@[simp] theorem State.withCmd_flow (x : Executor) (f : Flow) : (s.withCmd x).flow f = s.flow f := rfl
@[simp] theorem State.withCmd_rflow (x : Executor) (f : Flow) : (s.withCmd x).rflow f = s.rflow f := rfl
@[simp] theorem State.withCmd_isOff (x : Executor) (f : Flow) : (s.withCmd x).isOff f = s.isOff f := rfl
@[simp] theorem State.withCmd_fitted (x : Executor) (p : MPort) : (s.withCmd x).fitted p = s.fitted p := rfl

/-! ## withUnit -/

@[simp] theorem State.withUnit_resetLow (x : FaultUnit) : (s.withUnit x).resetLow = s.resetLow := rfl
@[simp] theorem State.withUnit_solo (x : FaultUnit) : (s.withUnit x).solo = s.solo := rfl
@[simp] theorem State.withUnit_timer (x : FaultUnit) : (s.withUnit x).timer = s.timer := rfl
@[simp] theorem State.withUnit_link (x : FaultUnit) : (s.withUnit x).link = s.link := rfl
@[simp] theorem State.withUnit_monitors (x : FaultUnit) : (s.withUnit x).monitors = s.monitors := rfl
@[simp] theorem State.withUnit_arbiters (x : FaultUnit) : (s.withUnit x).arbiters = s.arbiters := rfl
@[simp] theorem State.withUnit_held (x : FaultUnit) : (s.withUnit x).held = s.held := rfl
@[simp] theorem State.withUnit_rate (x : FaultUnit) : (s.withUnit x).rate = s.rate := rfl
@[simp] theorem State.withUnit_cmd (x : FaultUnit) : (s.withUnit x).cmd = s.cmd := rfl
@[simp] theorem State.withUnit_unit (x : FaultUnit) : (s.withUnit x).unit = x := rfl
@[simp] theorem State.withUnit_pending (x : FaultUnit) : (s.withUnit x).pending = s.pending := rfl
@[simp] theorem State.withUnit_arb (x : FaultUnit) (e : TargetPort) : (s.withUnit x).arb e = s.arb e := rfl
@[simp] theorem State.withUnit_mon (x : FaultUnit) (e : TargetPort) : (s.withUnit x).mon e = s.mon e := rfl
@[simp] theorem State.withUnit_flow (x : FaultUnit) (f : Flow) : (s.withUnit x).flow f = s.flow f := rfl
@[simp] theorem State.withUnit_rflow (x : FaultUnit) (f : Flow) : (s.withUnit x).rflow f = s.rflow f := rfl
@[simp] theorem State.withUnit_mgmt (x : FaultUnit) (p : MPort) : (s.withUnit x).mgmt p = s.mgmt p := rfl
@[simp] theorem State.withUnit_isOff (x : FaultUnit) (f : Flow) : (s.withUnit x).isOff f = s.isOff f := rfl
@[simp] theorem State.withUnit_fitted (x : FaultUnit) (p : MPort) : (s.withUnit x).fitted p = s.fitted p := rfl

/-! ## withTimer -/

@[simp] theorem State.withTimer_resetLow (x : EpochTimer) : (s.withTimer x).resetLow = s.resetLow := rfl
@[simp] theorem State.withTimer_solo (x : EpochTimer) : (s.withTimer x).solo = s.solo := rfl
@[simp] theorem State.withTimer_timer (x : EpochTimer) : (s.withTimer x).timer = x := rfl
@[simp] theorem State.withTimer_link (x : EpochTimer) : (s.withTimer x).link = s.link := rfl
@[simp] theorem State.withTimer_monitors (x : EpochTimer) : (s.withTimer x).monitors = s.monitors := rfl
@[simp] theorem State.withTimer_arbiters (x : EpochTimer) : (s.withTimer x).arbiters = s.arbiters := rfl
@[simp] theorem State.withTimer_held (x : EpochTimer) : (s.withTimer x).held = s.held := rfl
@[simp] theorem State.withTimer_rate (x : EpochTimer) : (s.withTimer x).rate = s.rate := rfl
@[simp] theorem State.withTimer_cmd (x : EpochTimer) : (s.withTimer x).cmd = s.cmd := rfl
@[simp] theorem State.withTimer_unit (x : EpochTimer) : (s.withTimer x).unit = s.unit := rfl
@[simp] theorem State.withTimer_pending (x : EpochTimer) : (s.withTimer x).pending = s.pending := rfl
@[simp] theorem State.withTimer_arb (x : EpochTimer) (e : TargetPort) : (s.withTimer x).arb e = s.arb e := rfl
@[simp] theorem State.withTimer_mon (x : EpochTimer) (e : TargetPort) : (s.withTimer x).mon e = s.mon e := rfl
@[simp] theorem State.withTimer_flow (x : EpochTimer) (f : Flow) : (s.withTimer x).flow f = s.flow f := rfl
@[simp] theorem State.withTimer_rflow (x : EpochTimer) (f : Flow) : (s.withTimer x).rflow f = s.rflow f := rfl
@[simp] theorem State.withTimer_mgmt (x : EpochTimer) (p : MPort) : (s.withTimer x).mgmt p = s.mgmt p := rfl
@[simp] theorem State.withTimer_isOff (x : EpochTimer) (f : Flow) : (s.withTimer x).isOff f = s.isOff f := rfl
@[simp] theorem State.withTimer_fitted (x : EpochTimer) (p : MPort) : (s.withTimer x).fitted p = s.fitted p := rfl

@[simp] theorem State.withArbiters_arb (x : Table Arbiter 8) (e : TargetPort) :
    (s.withArbiters x).arb e = Table.get x e := rfl
@[simp] theorem State.withMonitors_mon (x : Table Monitor 8) (e : TargetPort) :
    (s.withMonitors x).mon e = Table.get x e := rfl
@[simp] theorem State.withHeld_flow (x : Table ArbiterFlow 96) (f : Flow) :
    (s.withHeld x).flow f = Table.get x f := rfl
@[simp] theorem State.withRate_rflow (x : RateEngine) (f : Flow) :
    (s.withRate x).rflow f = Table.get x.flows f := rfl
@[simp] theorem State.withCmd_mgmt (x : Executor) (p : MPort) : (s.withCmd x).mgmt p = x.mgmt.get p := rfl


/-! ## setArb -/

@[simp] theorem State.setArb_resetLow (e : TargetPort) (x : Arbiter) : (s.setArb e x).resetLow = s.resetLow := rfl
@[simp] theorem State.setArb_solo (e : TargetPort) (x : Arbiter) : (s.setArb e x).solo = s.solo := rfl
@[simp] theorem State.setArb_timer (e : TargetPort) (x : Arbiter) : (s.setArb e x).timer = s.timer := rfl
@[simp] theorem State.setArb_link (e : TargetPort) (x : Arbiter) : (s.setArb e x).link = s.link := rfl
@[simp] theorem State.setArb_monitors (e : TargetPort) (x : Arbiter) : (s.setArb e x).monitors = s.monitors := rfl
@[simp] theorem State.setArb_held (e : TargetPort) (x : Arbiter) : (s.setArb e x).held = s.held := rfl
@[simp] theorem State.setArb_rate (e : TargetPort) (x : Arbiter) : (s.setArb e x).rate = s.rate := rfl
@[simp] theorem State.setArb_cmd (e : TargetPort) (x : Arbiter) : (s.setArb e x).cmd = s.cmd := rfl
@[simp] theorem State.setArb_unit (e : TargetPort) (x : Arbiter) : (s.setArb e x).unit = s.unit := rfl
@[simp] theorem State.setArb_pending (e : TargetPort) (x : Arbiter) : (s.setArb e x).pending = s.pending := rfl
@[simp] theorem State.setArb_mon (e : TargetPort) (x : Arbiter) (e' : TargetPort) : (s.setArb e x).mon e' = s.mon e' := rfl
@[simp] theorem State.setArb_flow (e : TargetPort) (x : Arbiter) (f' : Flow) : (s.setArb e x).flow f' = s.flow f' := rfl
@[simp] theorem State.setArb_rflow (e : TargetPort) (x : Arbiter) (f' : Flow) : (s.setArb e x).rflow f' = s.rflow f' := rfl
@[simp] theorem State.setArb_mgmt (e : TargetPort) (x : Arbiter) (p' : MPort) : (s.setArb e x).mgmt p' = s.mgmt p' := rfl
@[simp] theorem State.setArb_isOff (e : TargetPort) (x : Arbiter) (f' : Flow) : (s.setArb e x).isOff f' = s.isOff f' := rfl
@[simp] theorem State.setArb_fitted (e : TargetPort) (x : Arbiter) (p' : MPort) : (s.setArb e x).fitted p' = s.fitted p' := rfl

/-! ## setMon -/

@[simp] theorem State.setMon_resetLow (e : TargetPort) (x : Monitor) : (s.setMon e x).resetLow = s.resetLow := rfl
@[simp] theorem State.setMon_solo (e : TargetPort) (x : Monitor) : (s.setMon e x).solo = s.solo := rfl
@[simp] theorem State.setMon_timer (e : TargetPort) (x : Monitor) : (s.setMon e x).timer = s.timer := rfl
@[simp] theorem State.setMon_link (e : TargetPort) (x : Monitor) : (s.setMon e x).link = s.link := rfl
@[simp] theorem State.setMon_arbiters (e : TargetPort) (x : Monitor) : (s.setMon e x).arbiters = s.arbiters := rfl
@[simp] theorem State.setMon_held (e : TargetPort) (x : Monitor) : (s.setMon e x).held = s.held := rfl
@[simp] theorem State.setMon_rate (e : TargetPort) (x : Monitor) : (s.setMon e x).rate = s.rate := rfl
@[simp] theorem State.setMon_cmd (e : TargetPort) (x : Monitor) : (s.setMon e x).cmd = s.cmd := rfl
@[simp] theorem State.setMon_unit (e : TargetPort) (x : Monitor) : (s.setMon e x).unit = s.unit := rfl
@[simp] theorem State.setMon_pending (e : TargetPort) (x : Monitor) : (s.setMon e x).pending = s.pending := rfl
@[simp] theorem State.setMon_arb (e : TargetPort) (x : Monitor) (e' : TargetPort) : (s.setMon e x).arb e' = s.arb e' := rfl
@[simp] theorem State.setMon_flow (e : TargetPort) (x : Monitor) (f' : Flow) : (s.setMon e x).flow f' = s.flow f' := rfl
@[simp] theorem State.setMon_rflow (e : TargetPort) (x : Monitor) (f' : Flow) : (s.setMon e x).rflow f' = s.rflow f' := rfl
@[simp] theorem State.setMon_mgmt (e : TargetPort) (x : Monitor) (p' : MPort) : (s.setMon e x).mgmt p' = s.mgmt p' := rfl
@[simp] theorem State.setMon_isOff (e : TargetPort) (x : Monitor) (f' : Flow) : (s.setMon e x).isOff f' = s.isOff f' := rfl
@[simp] theorem State.setMon_fitted (e : TargetPort) (x : Monitor) (p' : MPort) : (s.setMon e x).fitted p' = s.fitted p' := rfl

/-! ## setFlow -/

@[simp] theorem State.setFlow_resetLow (f : Flow) (x : ArbiterFlow) : (s.setFlow f x).resetLow = s.resetLow := rfl
@[simp] theorem State.setFlow_solo (f : Flow) (x : ArbiterFlow) : (s.setFlow f x).solo = s.solo := rfl
@[simp] theorem State.setFlow_timer (f : Flow) (x : ArbiterFlow) : (s.setFlow f x).timer = s.timer := rfl
@[simp] theorem State.setFlow_link (f : Flow) (x : ArbiterFlow) : (s.setFlow f x).link = s.link := rfl
@[simp] theorem State.setFlow_monitors (f : Flow) (x : ArbiterFlow) : (s.setFlow f x).monitors = s.monitors := rfl
@[simp] theorem State.setFlow_arbiters (f : Flow) (x : ArbiterFlow) : (s.setFlow f x).arbiters = s.arbiters := rfl
@[simp] theorem State.setFlow_rate (f : Flow) (x : ArbiterFlow) : (s.setFlow f x).rate = s.rate := rfl
@[simp] theorem State.setFlow_cmd (f : Flow) (x : ArbiterFlow) : (s.setFlow f x).cmd = s.cmd := rfl
@[simp] theorem State.setFlow_unit (f : Flow) (x : ArbiterFlow) : (s.setFlow f x).unit = s.unit := rfl
@[simp] theorem State.setFlow_pending (f : Flow) (x : ArbiterFlow) : (s.setFlow f x).pending = s.pending := rfl
@[simp] theorem State.setFlow_arb (f : Flow) (x : ArbiterFlow) (e' : TargetPort) : (s.setFlow f x).arb e' = s.arb e' := rfl
@[simp] theorem State.setFlow_mon (f : Flow) (x : ArbiterFlow) (e' : TargetPort) : (s.setFlow f x).mon e' = s.mon e' := rfl
@[simp] theorem State.setFlow_rflow (f : Flow) (x : ArbiterFlow) (f' : Flow) : (s.setFlow f x).rflow f' = s.rflow f' := rfl
@[simp] theorem State.setFlow_mgmt (f : Flow) (x : ArbiterFlow) (p' : MPort) : (s.setFlow f x).mgmt p' = s.mgmt p' := rfl
@[simp] theorem State.setFlow_isOff (f : Flow) (x : ArbiterFlow) (f' : Flow) : (s.setFlow f x).isOff f' = s.isOff f' := rfl
@[simp] theorem State.setFlow_fitted (f : Flow) (x : ArbiterFlow) (p' : MPort) : (s.setFlow f x).fitted p' = s.fitted p' := rfl

/-! ## setDemand -/

@[simp] theorem State.setDemand_resetLow (f : Flow) (x : Demand) : (s.setDemand f x).resetLow = s.resetLow := rfl
@[simp] theorem State.setDemand_solo (f : Flow) (x : Demand) : (s.setDemand f x).solo = s.solo := rfl
@[simp] theorem State.setDemand_timer (f : Flow) (x : Demand) : (s.setDemand f x).timer = s.timer := rfl
@[simp] theorem State.setDemand_link (f : Flow) (x : Demand) : (s.setDemand f x).link = s.link := rfl
@[simp] theorem State.setDemand_monitors (f : Flow) (x : Demand) : (s.setDemand f x).monitors = s.monitors := rfl
@[simp] theorem State.setDemand_arbiters (f : Flow) (x : Demand) : (s.setDemand f x).arbiters = s.arbiters := rfl
@[simp] theorem State.setDemand_rate (f : Flow) (x : Demand) : (s.setDemand f x).rate = s.rate := rfl
@[simp] theorem State.setDemand_cmd (f : Flow) (x : Demand) : (s.setDemand f x).cmd = s.cmd := rfl
@[simp] theorem State.setDemand_unit (f : Flow) (x : Demand) : (s.setDemand f x).unit = s.unit := rfl
@[simp] theorem State.setDemand_pending (f : Flow) (x : Demand) : (s.setDemand f x).pending = s.pending := rfl
@[simp] theorem State.setDemand_arb (f : Flow) (x : Demand) (e' : TargetPort) : (s.setDemand f x).arb e' = s.arb e' := rfl
@[simp] theorem State.setDemand_mon (f : Flow) (x : Demand) (e' : TargetPort) : (s.setDemand f x).mon e' = s.mon e' := rfl
@[simp] theorem State.setDemand_rflow (f : Flow) (x : Demand) (f' : Flow) : (s.setDemand f x).rflow f' = s.rflow f' := rfl
@[simp] theorem State.setDemand_mgmt (f : Flow) (x : Demand) (p' : MPort) : (s.setDemand f x).mgmt p' = s.mgmt p' := rfl
@[simp] theorem State.setDemand_isOff (f : Flow) (x : Demand) (f' : Flow) : (s.setDemand f x).isOff f' = s.isOff f' := rfl
@[simp] theorem State.setDemand_fitted (f : Flow) (x : Demand) (p' : MPort) : (s.setDemand f x).fitted p' = s.fitted p' := rfl

/-! ## setRflow -/

@[simp] theorem State.setRflow_resetLow (f : Flow) (x : RateFlow) : (s.setRflow f x).resetLow = s.resetLow := rfl
@[simp] theorem State.setRflow_solo (f : Flow) (x : RateFlow) : (s.setRflow f x).solo = s.solo := rfl
@[simp] theorem State.setRflow_timer (f : Flow) (x : RateFlow) : (s.setRflow f x).timer = s.timer := rfl
@[simp] theorem State.setRflow_link (f : Flow) (x : RateFlow) : (s.setRflow f x).link = s.link := rfl
@[simp] theorem State.setRflow_monitors (f : Flow) (x : RateFlow) : (s.setRflow f x).monitors = s.monitors := rfl
@[simp] theorem State.setRflow_arbiters (f : Flow) (x : RateFlow) : (s.setRflow f x).arbiters = s.arbiters := rfl
@[simp] theorem State.setRflow_held (f : Flow) (x : RateFlow) : (s.setRflow f x).held = s.held := rfl
@[simp] theorem State.setRflow_cmd (f : Flow) (x : RateFlow) : (s.setRflow f x).cmd = s.cmd := rfl
@[simp] theorem State.setRflow_unit (f : Flow) (x : RateFlow) : (s.setRflow f x).unit = s.unit := rfl
@[simp] theorem State.setRflow_pending (f : Flow) (x : RateFlow) : (s.setRflow f x).pending = s.pending := rfl
@[simp] theorem State.setRflow_arb (f : Flow) (x : RateFlow) (e' : TargetPort) : (s.setRflow f x).arb e' = s.arb e' := rfl
@[simp] theorem State.setRflow_mon (f : Flow) (x : RateFlow) (e' : TargetPort) : (s.setRflow f x).mon e' = s.mon e' := rfl
@[simp] theorem State.setRflow_flow (f : Flow) (x : RateFlow) (f' : Flow) : (s.setRflow f x).flow f' = s.flow f' := rfl
@[simp] theorem State.setRflow_mgmt (f : Flow) (x : RateFlow) (p' : MPort) : (s.setRflow f x).mgmt p' = s.mgmt p' := rfl
@[simp] theorem State.setRflow_fitted (f : Flow) (x : RateFlow) (p' : MPort) : (s.setRflow f x).fitted p' = s.fitted p' := rfl

/-! ## setMgmt -/

@[simp] theorem State.setMgmt_resetLow (p : MPort) (x : MgmtPort) : (s.setMgmt p x).resetLow = s.resetLow := rfl
@[simp] theorem State.setMgmt_solo (p : MPort) (x : MgmtPort) : (s.setMgmt p x).solo = s.solo := rfl
@[simp] theorem State.setMgmt_timer (p : MPort) (x : MgmtPort) : (s.setMgmt p x).timer = s.timer := rfl
@[simp] theorem State.setMgmt_link (p : MPort) (x : MgmtPort) : (s.setMgmt p x).link = s.link := rfl
@[simp] theorem State.setMgmt_monitors (p : MPort) (x : MgmtPort) : (s.setMgmt p x).monitors = s.monitors := rfl
@[simp] theorem State.setMgmt_arbiters (p : MPort) (x : MgmtPort) : (s.setMgmt p x).arbiters = s.arbiters := rfl
@[simp] theorem State.setMgmt_held (p : MPort) (x : MgmtPort) : (s.setMgmt p x).held = s.held := rfl
@[simp] theorem State.setMgmt_rate (p : MPort) (x : MgmtPort) : (s.setMgmt p x).rate = s.rate := rfl
@[simp] theorem State.setMgmt_unit (p : MPort) (x : MgmtPort) : (s.setMgmt p x).unit = s.unit := rfl
@[simp] theorem State.setMgmt_pending (p : MPort) (x : MgmtPort) : (s.setMgmt p x).pending = s.pending := rfl
@[simp] theorem State.setMgmt_arb (p : MPort) (x : MgmtPort) (e' : TargetPort) : (s.setMgmt p x).arb e' = s.arb e' := rfl
@[simp] theorem State.setMgmt_mon (p : MPort) (x : MgmtPort) (e' : TargetPort) : (s.setMgmt p x).mon e' = s.mon e' := rfl
@[simp] theorem State.setMgmt_flow (p : MPort) (x : MgmtPort) (f' : Flow) : (s.setMgmt p x).flow f' = s.flow f' := rfl
@[simp] theorem State.setMgmt_rflow (p : MPort) (x : MgmtPort) (f' : Flow) : (s.setMgmt p x).rflow f' = s.rflow f' := rfl
@[simp] theorem State.setMgmt_isOff (p : MPort) (x : MgmtPort) (f' : Flow) : (s.setMgmt p x).isOff f' = s.isOff f' := rfl
@[simp] theorem State.setMgmt_fitted (p : MPort) (x : MgmtPort) (p' : MPort) : (s.setMgmt p x).fitted p' = s.fitted p' := rfl

/-- Reading an arbiter after one is written. -/
theorem State.setArb_arb (e e' : TargetPort) (x : Arbiter) :
    (s.setArb e x).arb e' = if e' = e then x else s.arb e' := Table.get_put _ _ _ _
@[simp] theorem State.setArb_arb_self (e : TargetPort) (x : Arbiter) : (s.setArb e x).arb e = x :=
  Table.get_put_self _ _ _
/-- Reading a Port Monitor after one is written. -/
theorem State.setMon_mon (e e' : TargetPort) (x : Monitor) :
    (s.setMon e x).mon e' = if e' = e then x else s.mon e' := Table.get_put _ _ _ _
@[simp] theorem State.setMon_mon_self (e : TargetPort) (x : Monitor) : (s.setMon e x).mon e = x :=
  Table.get_put_self _ _ _
/-- Reading a flow at the arbiters after one is written. -/
theorem State.setFlow_flow (f f' : Flow) (x : ArbiterFlow) :
    (s.setFlow f x).flow f' = if f' = f then x else s.flow f' := Table.get_put _ _ _ _
@[simp] theorem State.setFlow_flow_self (f : Flow) (x : ArbiterFlow) : (s.setFlow f x).flow f = x :=
  Table.get_put_self _ _ _
/-- Reading a flow at the arbiters after its demand and token fields are written. -/
theorem State.setDemand_flow (f f' : Flow) (x : Demand) :
    (s.setDemand f x).flow f' = if f' = f then { s.flow f with demand := x } else s.flow f' := Table.get_put _ _ _ _
@[simp] theorem State.setDemand_flow_self (f : Flow) (x : Demand) :
    (s.setDemand f x).flow f = { s.flow f with demand := x } := Table.get_put_self _ _ _
/-- Reading a flow at the Rate Engine after one is written. -/
theorem State.setRflow_rflow (f f' : Flow) (x : RateFlow) :
    (s.setRflow f x).rflow f' = if f' = f then x else s.rflow f' := Table.get_put _ _ _ _
@[simp] theorem State.setRflow_rflow_self (f : Flow) (x : RateFlow) : (s.setRflow f x).rflow f = x :=
  Table.get_put_self _ _ _
@[simp] theorem State.setRflow_profiles (f : Flow) (x : RateFlow) :
    (s.setRflow f x).rate.profiles = s.rate.profiles := rfl
@[simp] theorem State.setRflow_capacity (f : Flow) (x : RateFlow) :
    (s.setRflow f x).rate.capacity = s.rate.capacity := rfl
@[simp] theorem State.setRflow_queue (f : Flow) (x : RateFlow) : (s.setRflow f x).rate.queue = s.rate.queue := rfl
/-- Reading a management port after one is written. -/
theorem State.setMgmt_mgmt (p q : MPort) (x : MgmtPort) :
    (s.setMgmt p x).mgmt q = if q = p then x else s.mgmt q := PerPort.get_put _ _ _ _
@[simp] theorem State.setMgmt_mgmt_self (p : MPort) (x : MgmtPort) : (s.setMgmt p x).mgmt p = x :=
  PerPort.get_put_self _ _ _

@[simp] theorem State.setMgmt_cmd_flows (p : MPort) (x : MgmtPort) : (s.setMgmt p x).cmd.flows = s.cmd.flows := rfl
@[simp] theorem State.setMgmt_cmd_ports (p : MPort) (x : MgmtPort) : (s.setMgmt p x).cmd.ports = s.cmd.ports := rfl
@[simp] theorem State.setMgmt_cmd_hosts (p : MPort) (x : MgmtPort) : (s.setMgmt p x).cmd.hosts = s.cmd.hosts := rfl
@[simp] theorem State.setMgmt_cmd_running (p : MPort) (x : MgmtPort) : (s.setMgmt p x).cmd.running = s.cmd.running := rfl
@[simp] theorem State.setMgmt_cmd_preference (p : MPort) (x : MgmtPort) : (s.setMgmt p x).cmd.preference = s.cmd.preference := rfl
@[simp] theorem State.setMgmt_cmd_lockClosed (p : MPort) (x : MgmtPort) : (s.setMgmt p x).cmd.lockClosed = s.cmd.lockClosed := rfl
@[simp] theorem State.setMgmt_cmd_consent (p : MPort) (x : MgmtPort) : (s.setMgmt p x).cmd.consent = s.cmd.consent := rfl
@[simp] theorem State.setMgmt_cmd_posts (p : MPort) (x : MgmtPort) : (s.setMgmt p x).cmd.posts = s.cmd.posts := rfl

/-! ## withRunning -/

@[simp] theorem State.withRunning_resetLow (j : Option Running) : (s.withRunning j).resetLow = s.resetLow := rfl
@[simp] theorem State.withRunning_solo (j : Option Running) : (s.withRunning j).solo = s.solo := rfl
@[simp] theorem State.withRunning_timer (j : Option Running) : (s.withRunning j).timer = s.timer := rfl
@[simp] theorem State.withRunning_link (j : Option Running) : (s.withRunning j).link = s.link := rfl
@[simp] theorem State.withRunning_monitors (j : Option Running) : (s.withRunning j).monitors = s.monitors := rfl
@[simp] theorem State.withRunning_arbiters (j : Option Running) : (s.withRunning j).arbiters = s.arbiters := rfl
@[simp] theorem State.withRunning_held (j : Option Running) : (s.withRunning j).held = s.held := rfl
@[simp] theorem State.withRunning_rate (j : Option Running) : (s.withRunning j).rate = s.rate := rfl
@[simp] theorem State.withRunning_unit (j : Option Running) : (s.withRunning j).unit = s.unit := rfl
@[simp] theorem State.withRunning_pending (j : Option Running) : (s.withRunning j).pending = s.pending := rfl
@[simp] theorem State.withRunning_arb (j : Option Running) (e : TargetPort) : (s.withRunning j).arb e = s.arb e := rfl
@[simp] theorem State.withRunning_mon (j : Option Running) (e : TargetPort) : (s.withRunning j).mon e = s.mon e := rfl
@[simp] theorem State.withRunning_flow (j : Option Running) (f : Flow) : (s.withRunning j).flow f = s.flow f := rfl
@[simp] theorem State.withRunning_rflow (j : Option Running) (f : Flow) : (s.withRunning j).rflow f = s.rflow f := rfl
@[simp] theorem State.withRunning_mgmt (j : Option Running) (p : MPort) : (s.withRunning j).mgmt p = s.mgmt p := rfl
@[simp] theorem State.withRunning_isOff (j : Option Running) (f : Flow) : (s.withRunning j).isOff f = s.isOff f := rfl
@[simp] theorem State.withRunning_fitted (j : Option Running) (p : MPort) : (s.withRunning j).fitted p = s.fitted p := rfl
@[simp] theorem State.withRunning_running (j : Option Running) : (s.withRunning j).cmd.running = j := rfl
@[simp] theorem State.withRunning_cmd_flows (j : Option Running) : (s.withRunning j).cmd.flows = s.cmd.flows := rfl
@[simp] theorem State.withRunning_cmd_ports (j : Option Running) : (s.withRunning j).cmd.ports = s.cmd.ports := rfl
@[simp] theorem State.withRunning_cmd_hosts (j : Option Running) : (s.withRunning j).cmd.hosts = s.cmd.hosts := rfl
@[simp] theorem State.withRunning_cmd_mgmt (j : Option Running) : (s.withRunning j).cmd.mgmt = s.cmd.mgmt := rfl
@[simp] theorem State.withRunning_cmd_preference (j : Option Running) : (s.withRunning j).cmd.preference = s.cmd.preference := rfl
@[simp] theorem State.withRunning_cmd_lockClosed (j : Option Running) : (s.withRunning j).cmd.lockClosed = s.cmd.lockClosed := rfl
@[simp] theorem State.withRunning_cmd_consent (j : Option Running) : (s.withRunning j).cmd.consent = s.cmd.consent := rfl
@[simp] theorem State.withRunning_cmd_posts (j : Option Running) : (s.withRunning j).cmd.posts = s.cmd.posts := rfl

end Sys2Proof.Machine
end

