-- ==== Sys2Proof/Laws/Ops.lean ====
section
/-! SUPPORT. For each operation that several steps share, what it can do, said once. -/

namespace Sys2Proof.Machine

variable (s : State)

/-! ## Which events the part takes -/

/-- With RESET high a step of the part is its effect. -/
theorem State.live_of_high (f : State → State) (h : s.resetLow = false) : s.live f = .next (f s) := by
  simp [State.live, h]

/-- With RESET low a step of the part does nothing (R133). -/
theorem State.live_of_low (f : State → State) (h : s.resetLow = true) : s.live f = .next s := by
  simp [State.live, h]

/-- What a step of the part answers. -/
theorem State.live_eq_next (f : State → State) (t : State) :
    s.live f = .next t ↔ (s.resetLow = true ∧ t = s) ∨ (s.resetLow = false ∧ t = f s) := by
  cases h : s.resetLow <;> simp [State.live, h, eq_comm]

/-! ## Requests (R126) -/

/-- The block takes the first request of the command in execution. -/
theorem State.request_of_todo {j : Running} {q : Request} {rest : List Request} (take : Running → Request → Option State)
    (hj : s.cmd.running = some j) (hq : j.todo = q :: rest) :
    s.request take = take { j with todo := rest } q := by
  simp [State.request, hj, hq]

/-- A request is taken only from a command in execution that has one. -/
theorem State.request_eq_some (take : Running → Request → Option State) (t : State) :
    s.request take = some t ↔
      ∃ j q rest, s.cmd.running = some j ∧ j.todo = q :: rest ∧ take { j with todo := rest } q = some t := by
  constructor
  · intro h
    unfold State.request at h
    split at h
    · split at h
      · exact ⟨_, _, _, ‹_›, ‹_›, h⟩
      · cases h
    · cases h
  · rintro ⟨j, q, rest, hj, hq, h⟩
    rw [State.request_of_todo s take hj hq, h]

/-- What the taking of a request can answer: the same state, or what the block makes of its request. -/
theorem State.onRequest_cases (take : Running → Request → Option State) :
    s.onRequest take = s ∨
      ∃ j q rest, s.cmd.running = some j ∧ j.todo = q :: rest ∧
        take { j with todo := rest } q = some (s.onRequest take) := by
  unfold State.onRequest
  cases h : s.request take with
  | none => exact .inl rfl
  | some t =>
    obtain ⟨j, q, rest, hj, hq, ht⟩ := (State.request_eq_some s take t).1 h
    exact .inr ⟨j, q, rest, hj, hq, ht⟩

/-- The taking of a request that a block accepts. -/
theorem State.onRequest_of_some {j : Running} {q : Request} {rest : List Request} {t : State}
    (take : Running → Request → Option State)
    (hj : s.cmd.running = some j) (hq : j.todo = q :: rest) (ht : take { j with todo := rest } q = some t) :
    s.onRequest take = t := by
  rw [State.onRequest, State.request_of_todo s take hj hq, ht, Option.getD_some]

/-! ## Reports and postings -/

@[simp] theorem State.report_link (r : FaultReport) :
    s.report .link r = s.withLink { s.link with reports := s.link.reports ++ [r] } := rfl
@[simp] theorem State.report_arbiter (e : TargetPort) (r : FaultReport) :
    s.report (.arbiter e) r = s.setArb e { s.arb e with reports := (s.arb e).reports ++ [r] } := rfl
@[simp] theorem State.report_monitor (e : TargetPort) (r : FaultReport) :
    s.report (.monitor e) r = s.setMon e { s.mon e with reports := (s.mon e).reports ++ [r] } := rfl
@[simp] theorem State.report_rate (r : FaultReport) :
    s.report .rate r = s.withRate { s.rate with reports := s.rate.reports ++ [r] } := rfl

/-- The reports of a block after they are written; the executor has none. -/
theorem State.reportsOf_setReports (src : Source) (x : List FaultReport) (h : src ≠ .executor) :
    (s.setReports src x).reportsOf src = x := by
  cases src <;> simp_all [State.setReports, State.reportsOf]

/-- Writing a block's reports leaves its postings. -/
theorem State.postsOf_setReports (src src' : Source) (x : List FaultReport) :
    (s.setReports src x).postsOf src' = s.postsOf src' := by
  cases src <;> cases src' <;> simp [State.setReports, State.postsOf]
  next e e' =>
    rw [State.setMon_mon]
    split
    · next h => subst h; rfl
    · rfl

/-- Writing a block's reports leaves the unit. -/
@[simp] theorem State.setReports_unit (src : Source) (x : List FaultReport) : (s.setReports src x).unit = s.unit := by
  cases src <;> rfl

/-- Writing a block's reports leaves the timer. -/
@[simp] theorem State.setReports_timer (src : Source) (x : List FaultReport) : (s.setReports src x).timer = s.timer := by
  cases src <;> rfl

/-- Writing a block's reports leaves which ports are fitted. -/
@[simp] theorem State.setReports_fitted (src : Source) (x : List FaultReport) (p : MPort) :
    (s.setReports src x).fitted p = s.fitted p := by
  cases src <;> rfl

/-- The postings of a block after they are written; arbiters and the Rate Engine have none. -/
theorem State.postsOf_setPosts (src : Source) (x : List Posting) (h : ∀ e, src ≠ .arbiter e) (h' : src ≠ .rate) :
    (s.setPosts src x).postsOf src = x := by
  cases src <;> simp_all [State.setPosts, State.postsOf]

/-- Writing a block's postings leaves its reports. -/
theorem State.reportsOf_setPosts (src src' : Source) (x : List Posting) :
    (s.setPosts src x).reportsOf src' = s.reportsOf src' := by
  cases src <;> cases src' <;> simp [State.setPosts, State.reportsOf]
  next e e' =>
    rw [State.setMon_mon]
    split
    · next h => subst h; rfl
    · rfl

/-- Writing a block's postings leaves the unit. -/
@[simp] theorem State.setPosts_unit (src : Source) (x : List Posting) : (s.setPosts src x).unit = s.unit := by
  cases src <;> rfl

/-- Writing a block's postings leaves which ports are fitted. -/
@[simp] theorem State.setPosts_fitted (src : Source) (p : MPort) (x : List Posting) :
    (s.setPosts src x).fitted p = s.fitted p := by
  cases src <;> rfl

@[simp] theorem State.post_executor (x : Posting) :
    s.post .executor x = s.withCmd { s.cmd with posts := s.cmd.posts ++ [x] } := rfl
@[simp] theorem State.post_link (x : Posting) :
    s.post .link x = s.withLink { s.link with posts := s.link.posts ++ [x] } := rfl
@[simp] theorem State.post_monitor (e : TargetPort) (x : Posting) :
    s.post (.monitor e) x = s.setMon e { s.mon e with posts := (s.mon e).posts ++ [x] } := rfl

/-! ## Grants -/

/-- The busy slots are those that hold a grant. -/
theorem Arbiter.mem_busy (a : Arbiter) (n : Slot) (g : Grant) :
    (n, g) ∈ a.busy ↔ (Table.get a.slots n).grant = some g := by
  simp only [Arbiter.busy, List.mem_filterMap, Option.map_eq_some_iff, Prod.mk.injEq]
  constructor
  · rintro ⟨m, -, x, hx, rfl, rfl⟩; exact hx
  · intro h; exact ⟨n, List.mem_finRange n, g, h, rfl, rfl⟩

/-- The arbiter of a port after grants of it have retired (R82, R83). -/
@[simp] theorem State.retire_arb_self (e : TargetPort) (gone : List (Slot × Grant)) :
    (s.retire e gone).arb e =
      { s.arb e with
        slots := Table.tab fun n =>
          if gone.any fun x => x.1 == n then { Table.get (s.arb e).slots n with grant := none }
          else Table.get (s.arb e).slots n
        toExecutor := (s.arb e).toExecutor ++ gone.map fun x => ExecutorMsg.retired ((s.arb e).tagAt e x.1) } := by
  simp [State.retire]

/-- Another arbiter after grants have retired. -/
theorem State.retire_arb_ne {e e' : TargetPort} (gone : List (Slot × Grant)) (h : e' ≠ e) :
    (s.retire e gone).arb e' = s.arb e' := by
  simp [State.retire, State.setArb_arb, h]

/-- A flow after grants have retired (R12, R82). -/
@[simp] theorem State.retire_flow (e : TargetPort) (gone : List (Slot × Grant)) (f : Flow) :
    (s.retire e gone).flow f = { s.flow f with demand := (s.flow f).demand.less gone f } := by
  simp [State.retire]

@[simp] theorem State.retire_link (e : TargetPort) (gone : List (Slot × Grant)) : (s.retire e gone).link = s.link := rfl
@[simp] theorem State.retire_monitors (e : TargetPort) (gone : List (Slot × Grant)) :
    (s.retire e gone).monitors = s.monitors := rfl
@[simp] theorem State.retire_rate (e : TargetPort) (gone : List (Slot × Grant)) : (s.retire e gone).rate = s.rate := rfl
@[simp] theorem State.retire_cmd (e : TargetPort) (gone : List (Slot × Grant)) : (s.retire e gone).cmd = s.cmd := rfl
@[simp] theorem State.retire_unit (e : TargetPort) (gone : List (Slot × Grant)) : (s.retire e gone).unit = s.unit := rfl
@[simp] theorem State.retire_timer (e : TargetPort) (gone : List (Slot × Grant)) : (s.retire e gone).timer = s.timer := rfl
@[simp] theorem State.retire_isOff (e : TargetPort) (gone : List (Slot × Grant)) (f : Flow) :
    (s.retire e gone).isOff f = s.isOff f := rfl
@[simp] theorem State.retire_pending (e : TargetPort) (gone : List (Slot × Grant)) :
    (s.retire e gone).pending = s.pending := rfl

/-- What arbiter `e` has waiting after it hands on some records (R78, R170). -/
theorem State.hand_waiting (e e' : TargetPort) (rs : List OutRecord) :
    Table.get (s.hand e rs).link.waiting e' =
      if s.link.up = true ∧ e' = e then Table.get s.link.waiting e ++ rs else Table.get s.link.waiting e' := by
  unfold State.hand
  split
  · next h =>
    simp only [State.withLink_link, Table.get_put, h, true_and]
  · next h => simp [h]

/-- Handing records on changes the Link Interface only. -/
theorem State.hand_eq (e : TargetPort) (rs : List OutRecord) : ∃ w, s.hand e rs = s.withLink { s.link with waiting := w } := by
  unfold State.hand
  split
  · exact ⟨_, rfl⟩
  · exact ⟨s.link.waiting, rfl⟩

@[simp] theorem State.hand_arb (e e' : TargetPort) (rs : List OutRecord) : (s.hand e rs).arb e' = s.arb e' := by
  unfold State.hand; split <;> rfl
@[simp] theorem State.hand_flow (e : TargetPort) (rs : List OutRecord) (f : Flow) : (s.hand e rs).flow f = s.flow f := by
  unfold State.hand; split <;> rfl
@[simp] theorem State.hand_rate (e : TargetPort) (rs : List OutRecord) : (s.hand e rs).rate = s.rate := by
  unfold State.hand; split <;> rfl
@[simp] theorem State.hand_monitors (e : TargetPort) (rs : List OutRecord) : (s.hand e rs).monitors = s.monitors := by
  unfold State.hand; split <;> rfl
@[simp] theorem State.hand_cmd (e : TargetPort) (rs : List OutRecord) : (s.hand e rs).cmd = s.cmd := by
  unfold State.hand; split <;> rfl
@[simp] theorem State.hand_unit (e : TargetPort) (rs : List OutRecord) : (s.hand e rs).unit = s.unit := by
  unfold State.hand; split <;> rfl

/-! ## Commands (R126, R127, R132) -/

/-- A port after a response to one of its commands: the promised slot is filled, and without a promise nothing happens. -/
theorem State.respond_mgmt (p q : MPort) (r : Response) :
    (s.respond p r).mgmt q =
      if q = p ∧ (s.mgmt p).promised = true then
        { s.mgmt p with responses := (s.mgmt p).responses ++ [r], promised := false }
      else s.mgmt q := by
  unfold State.respond
  by_cases h : (s.mgmt p).promised = true
  · rw [if_pos h]
    simp only [State.setMgmt, State.withCmd_mgmt, PerPort.get_put, h, and_true]
    rfl
  · rw [if_neg h]; simp [h]

/-- A response changes its port's record only. -/
theorem State.respond_eq (p : MPort) (r : Response) : ∃ m, s.respond p r = s.setMgmt p m := by
  unfold State.respond
  split
  · exact ⟨_, rfl⟩
  · refine ⟨s.mgmt p, ?_⟩
    simp only [State.setMgmt, State.mgmt]
    cases p <;> rfl

/-- The end of a command leaves none in execution. -/
@[simp] theorem State.endCommand_running (j : Running) : (s.endCommand j).cmd.running = none := by
  obtain ⟨m, hm⟩ := State.respond_eq (s.withRunning none) j.port j.response
  rw [State.endCommand, hm]
  rfl

/-- A begun command with requests is in execution. -/
theorem State.launch_of_todo {j : Running} (h : j.todo ≠ []) : s.launch j = s.withRunning (some j) := by
  simp [State.launch, h]

/-- A begun command with none ends at once. -/
theorem State.launch_of_nil {j : Running} (h : j.todo = []) : s.launch j = s.endCommand j := by
  simp [State.launch, h]

@[simp] theorem State.commitOf_none {j : Running} (h : j.commit = none) : s.commitOf j = s := by
  simp [State.commitOf, h]

/-- The write of a command changes the executor's records of flows and ports only. -/
theorem State.commitOf_eq (j : Running) :
    ∃ flows ports, s.commitOf j = s.withCmd { s.cmd with flows := flows, ports := ports } := by
  unfold State.commitOf
  cases j.commit with
  | none => exact ⟨s.cmd.flows, s.cmd.ports, rfl⟩
  | some c => cases c <;> exact ⟨_, _, rfl⟩

/-- Completing a fence changes its port's record and the executor's postings only (R159). -/
theorem State.completeFence_eq (p : MPort) (x : Fence) :
    ∃ m posts, s.completeFence p x = (s.setMgmt p m).withCmd { (s.setMgmt p m).cmd with posts := posts } := by
  obtain ⟨m, hm⟩ := State.respond_eq (s.setMgmt p { s.mgmt p with fence := none }) p
    { tag := x.tag, kind := x.kind, status := .done, scope := none, payload := .absent }
  unfold State.completeFence
  simp only [hm]
  split
  · exact ⟨m, s.cmd.posts ++ [.toPort p .fenceDone], by cases p <;> rfl⟩
  · exact ⟨m, s.cmd.posts, by cases p <;> rfl⟩

/-- What draining a port's fence can do: nothing, take tags out of its drain set, or complete it (R83, R159). -/
theorem State.drainPort_cases (tags : List GrantTag) (p : MPort) :
    s.drainPort tags p = s ∨
      ∃ x, (s.mgmt p).fence = some x ∧ (∃ y ∈ x.drain, y ∈ tags) ∧
        ((x.drain.filter (· ∉ tags) ≠ [] ∧
            s.drainPort tags p =
              s.setMgmt p { s.mgmt p with fence := some { x with drain := x.drain.filter (· ∉ tags) } }) ∨
          (x.drain.filter (· ∉ tags) = [] ∧ s.drainPort tags p = s.completeFence p x)) := by
  unfold State.drainPort
  split
  · next x hx =>
    split
    · next h =>
      refine .inr ⟨x, hx, by simpa using h, ?_⟩
      dsimp only
      split
      · next hd => exact .inr ⟨hd, rfl⟩
      · next hd => exact .inl ⟨hd, rfl⟩
    · exact .inl rfl
  · exact .inl rfl

/-- Draining a port's fence changes its port's record and the executor's postings only (R83, R159). -/
theorem State.drainPort_eq (tags : List GrantTag) (p : MPort) :
    ∃ m posts, s.drainPort tags p = (s.setMgmt p m).withCmd { (s.setMgmt p m).cmd with posts := posts } := by
  have same : ∃ m posts, s = (s.setMgmt p m).withCmd { (s.setMgmt p m).cmd with posts := posts } :=
    ⟨s.mgmt p, s.cmd.posts, by cases p <;> rfl⟩
  unfold State.drainPort
  split
  · split
    · dsimp only
      split
      · exact s.completeFence_eq p _
      · exact ⟨_, s.cmd.posts, rfl⟩
    · exact same
  · exact same

/-- Draining changes the executor only, and of it the command in execution, the ports' records and the postings. -/
theorem State.drainSets_eq (tags : List GrantTag) :
    ∃ mgmt posts, s.drainSets tags =
      s.withCmd { s.cmd with
        mgmt := mgmt, posts := posts
        running := s.cmd.running.map fun j => { j with drain := j.drain.filter (· ∉ tags) } } := by
  obtain ⟨m, x, hm⟩ := (s.drainRunning tags).drainPort_eq tags .a
  obtain ⟨n, y, hn⟩ := ((s.drainRunning tags).drainPort tags .a).drainPort_eq tags .b
  exact ⟨_, y, by rw [State.drainSets, hn, hm]; rfl⟩

/-- What the look for a command can answer: nothing, or a command begun from a takeable port. -/
theorem State.takeIf_cases (sort : CommandRecord → Bool) :
    s.takeIf sort = s ∨
      ∃ p r, s.nextCommand = some (p, r) ∧ sort r = true ∧ s.takeIf sort = (s.takeFrom p).beginRecord p r := by
  unfold State.takeIf
  split
  · next p r h =>
    split
    · next hr => exact .inr ⟨p, r, h, hr, rfl⟩
    · exact .inl rfl
  · exact .inl rfl

/-- The command that the executor finds stands at the head of the queue of a takeable port, with none in execution. -/
theorem State.nextCommand_eq_some {p : MPort} {r : CommandRecord} (h : s.nextCommand = some (p, r)) :
    s.cmd.running = none ∧ (s.mgmt p).takeable = true ∧ (s.mgmt p).commands.head? = some r ∧
      ((s.mgmt p.other).takeable = true → s.cmd.preference = p) := by
  unfold State.nextCommand at h
  split at h
  · next q hq =>
    obtain ⟨r', hr, heq⟩ := Option.map_eq_some_iff.1 h
    obtain ⟨rfl, rfl⟩ := Prod.mk.injEq .. ▸ heq
    unfold State.chosenPort at hq
    split at hq
    · cases hq
    · next hn =>
      have hn' : s.cmd.running = none := by simpa using hn
      cases ha : (s.mgmt .a).takeable <;> cases hb : (s.mgmt .b).takeable <;> simp [ha, hb] at hq <;> subst hq
      · exact ⟨hn', hb, hr, fun h => by simp [MPort.other, ha] at h⟩
      · exact ⟨hn', ha, hr, fun h => by simp [MPort.other, hb] at h⟩
      · refine ⟨hn', ?_, hr, fun _ => rfl⟩
        cases hp : s.cmd.preference <;> assumption
  · cases h

/-! ## The fabric link (R170) -/

/-- A record that passes its check: it is handled on a link that is or comes UP, in the second case once the monitors have taken
their link-loss requests, and is only counted on a link that stays DOWN. -/
theorem State.passedRecord_cases (handle : State → State) :
    (s.link.up = true ∧ s.passedRecord handle = handle (s.withLink { s.link with failCount := 0 })) ∨
    (s.link.up = false ∧ 4 ≤ s.link.goodCount + 1 ∧
      s.passedRecord handle =
        handle (s.takeLosses.withLink { s.takeLosses.link with up := true, failCount := 0, goodCount := 0 })) ∨
    (s.link.up = false ∧ s.link.goodCount + 1 < 4 ∧
      s.passedRecord handle = s.withLink { s.link with goodCount := s.link.goodCount + 1 }) := by
  unfold State.passedRecord
  cases hu : s.link.up
  · by_cases hg : 4 ≤ s.link.goodCount + 1
    · exact .inr (.inl ⟨rfl, hg, by simp [hg]⟩)
    · exact .inr (.inr ⟨rfl, by omega, by simp only [Bool.false_eq_true, if_false]; rw [if_neg hg]⟩)
  · exact .inl ⟨rfl, by simp⟩

@[simp] theorem State.linkDown_up : s.linkDown.link.up = false := rfl
@[simp] theorem State.linkDown_failCount : s.linkDown.link.failCount = 0 := rfl
@[simp] theorem State.linkDown_goodCount : s.linkDown.link.goodCount = 0 := rfl
@[simp] theorem State.linkDown_laneLock : s.linkDown.link.laneLock = s.link.laneLock := rfl
@[simp] theorem State.linkDown_reports : s.linkDown.link.reports = s.link.reports := rfl
@[simp] theorem State.linkDown_waiting (e : TargetPort) : Table.get s.linkDown.link.waiting e = [] := by
  show Table.get (Table.const 8 []) e = []
  simp
@[simp] theorem State.linkDown_mon (e : TargetPort) :
    s.linkDown.mon e = { s.mon e with enable := false, inbox := (s.mon e).inbox ++ [.linkLoss] } := by
  show Table.get (Table.tab _) e = _
  simp
@[simp] theorem State.linkDown_arbiters : s.linkDown.arbiters = s.arbiters := rfl
@[simp] theorem State.linkDown_held : s.linkDown.held = s.held := rfl
@[simp] theorem State.linkDown_rate : s.linkDown.rate = s.rate := rfl
@[simp] theorem State.linkDown_cmd : s.linkDown.cmd = s.cmd := rfl
@[simp] theorem State.linkDown_unit : s.linkDown.unit = s.unit := rfl

/-! ## Target port conditions and the unit -/

/-- A Port Monitor after the shutdown of its port (R108, R117). -/
@[simp] theorem State.shutdown_mon_self (e : TargetPort) (c : Bool) :
    (s.shutdown e c).mon e =
      { s.mon e with
        linkUp := false, enable := false, level := 0
        reports := (s.mon e).reports ++ [{ kind := .portDown, flow := none, port := some e }]
        posts := (s.mon e).posts ++ [.toBoth .portDown] } := by
  simp [State.shutdown]

/-- The arbiter of a port after the shutdown of the port. -/
@[simp] theorem State.shutdown_arb_self (e : TargetPort) (c : Bool) :
    (s.shutdown e c).arb e = { s.arb e with shutdowns := (s.arb e).shutdowns ++ [c] } := by
  simp [State.shutdown]

/-- Two writes of one monitor and its arbiter, the later ones of which stand. -/
theorem State.setMon_setArb_twice (e : TargetPort) (x x' : Monitor) (a a' : Arbiter) :
    ((((s.setMon e x).setArb e a).setMon e x').setArb e a') = (s.setMon e x').setArb e a' := by
  simp [State.setMon, State.setArb, State.withMonitors, State.withArbiters, Table.put]

/-- A write of a monitor alone is one of the monitor and its arbiter. -/
theorem State.setMon_eq (e : TargetPort) (x : Monitor) : s.setMon e x = (s.setMon e x).setArb e (s.arb e) := by
  simp [State.setMon, State.setArb, State.withMonitors, State.withArbiters, State.arb]

/-- The shutdown of a port writes its monitor and its arbiter (R108). -/
theorem State.shutdown_eq (e : TargetPort) (c : Bool) :
    s.shutdown e c = (s.setMon e ((s.shutdown e c).mon e)).setArb e ((s.shutdown e c).arb e) := by
  rw [State.shutdown_mon_self, State.shutdown_arb_self]
  simp [State.shutdown, State.setMon, State.setArb, State.withMonitors, State.withArbiters, Table.put, State.mon, Table.get]

/-- A monitor that takes a message writes itself, but for its inbox, and its arbiter (R107, R117). -/
theorem State.takeMessage_eq (e : TargetPort) (m : MonitorMsg) :
    ∃ x a, x.inbox = (s.mon e).inbox ∧ s.takeMessage e m = (s.setMon e x).setArb e a := by
  have hs : ∃ x a, x.inbox = (s.mon e).inbox ∧ s = (s.setMon e x).setArb e a :=
    ⟨s.mon e, s.arb e, rfl, by simp [State.setMon, State.setArb, State.withMonitors, State.withArbiters, State.mon, State.arb]⟩
  have hd : ∀ c, ∃ x a, x.inbox = (s.mon e).inbox ∧ s.shutdown e c = (s.setMon e x).setArb e a :=
    fun c => ⟨_, _, by rw [State.shutdown_mon_self], s.shutdown_eq e c⟩
  have hx : ∀ x : Monitor, x.inbox = (s.mon e).inbox →
      ∃ y a, y.inbox = (s.mon e).inbox ∧ s.setMon e x = (s.setMon e y).setArb e a := fun x h => ⟨x, _, h, s.setMon_eq e x⟩
  cases m with
  | status up level =>
    simp only [State.takeMessage, State.takeStatus, State.statusUp]
    split
    · split
      · refine ⟨{ s.mon e with
          linkUp := true, level := level, tripFlag := true, posts := (s.mon e).posts ++ [.toBoth .trip] }, s.arb e, rfl, ?_⟩
        rw [← State.setMon_eq]
        simp [State.setMon, State.withMonitors, Table.put, State.mon, Table.get]
      · exact hx _ rfl
    · split
      · exact hd true
      · exact hs
  | linkLoss =>
    simp only [State.takeMessage, State.takeLoss]
    split
    · exact hd false
    · exact hs

/-- A monitor that has taken its messages through its last link-loss request has none left, and has written itself and its
arbiter. -/
theorem State.takeThroughLoss_eq (e : TargetPort) (l : List MonitorMsg) (h : (s.mon e).inbox = l) :
    ∃ x a, .linkLoss ∉ x.inbox ∧ State.takeThroughLoss e l s = (s.setMon e x).setArb e a := by
  induction l generalizing s with
  | nil =>
    exact ⟨s.mon e, s.arb e, by simp [h], by
      simp [State.takeThroughLoss, State.setMon, State.setArb, State.withMonitors, State.withArbiters, State.mon, State.arb]⟩
  | cons m rest ih =>
    rw [State.takeThroughLoss]
    split
    · obtain ⟨x, a, hi, hm⟩ := (s.popMonitor e rest).takeMessage_eq e m
      obtain ⟨x', a', hn, ht⟩ := ih ((s.popMonitor e rest).takeMessage e m) (by
        rw [hm, State.setArb_mon, State.setMon_mon_self, hi]; simp [State.popMonitor])
      refine ⟨x', a', hn, ?_⟩
      rw [ht, hm, State.setMon_setArb_twice]
      simp [State.popMonitor, State.setMon, State.setArb, State.withMonitors, State.withArbiters, Table.put]
    · next hc =>
      refine ⟨s.mon e, s.arb e, by simpa [h] using hc, ?_⟩
      simp [State.setMon, State.setArb, State.withMonitors, State.withArbiters, State.mon, State.arb]

/-- Once the monitors have taken their messages through their link-loss requests, none is left, and only monitors and arbiters
differ (R117). -/
theorem State.takeLosses_eq :
    ∃ ms as, s.takeLosses = (s.withMonitors ms).withArbiters as ∧ ∀ e, .linkLoss ∉ (s.takeLosses.mon e).inbox := by
  have h : ∀ (l : List TargetPort) (s : State), ∃ ms as,
      l.foldl (fun s e => State.takeThroughLoss e (s.mon e).inbox s) s = (s.withMonitors ms).withArbiters as ∧
      ∀ e, e ∈ l ∨ .linkLoss ∉ (s.mon e).inbox → .linkLoss ∉ (Table.get ms e).inbox := by
    intro l
    induction l with
    | nil => exact fun s => ⟨s.monitors, s.arbiters, rfl, fun e h => by simpa [State.mon] using h⟩
    | cons k l ih =>
      intro s
      obtain ⟨x, a, hx, ht⟩ := s.takeThroughLoss_eq k _ rfl
      obtain ⟨ms, as, hf, hl⟩ := ih (State.takeThroughLoss k (s.mon k).inbox s)
      refine ⟨ms, as, ?_, fun e he => hl e ?_⟩
      · rw [List.foldl_cons, hf, ht]; rfl
      · rw [ht, State.setArb_mon, State.setMon_mon]
        by_cases hk : e = k
        · exact .inr (by simpa [hk] using hx)
        · rcases he with he | he
          · exact .inl (by simpa [hk] using he)
          · exact .inr (by simpa [hk] using he)
  obtain ⟨ms, as, ht, hl⟩ := h (List.finRange 8) s
  refine ⟨ms, as, ht, fun e => ?_⟩
  rw [State.takeLosses, ht]
  exact hl e (.inl (List.mem_finRange e))

/-- Where no link-loss request is untaken the monitors take nothing. -/
theorem State.takeLosses_of_taken (h : ∀ e, .linkLoss ∉ (s.mon e).inbox) : s.takeLosses = s := by
  have thr : ∀ (e : TargetPort) (l : List MonitorMsg), .linkLoss ∉ l → State.takeThroughLoss e l s = s := by
    intro e l hl
    cases l with
    | nil => rfl
    | cons m rest => rw [State.takeThroughLoss, if_neg]; simpa using hl
  have fold : ∀ l : List TargetPort, l.foldl (fun s e => State.takeThroughLoss e (s.mon e).inbox s) s = s := by
    intro l
    induction l with
    | nil => rfl
    | cons e l ih => rw [List.foldl_cons, thr e _ (h e), ih]
  exact fold _

/-- What the monitors take leaves the Link Interface. -/
@[simp] theorem State.takeLosses_link : s.takeLosses.link = s.link := by
  obtain ⟨ms, as, h, -⟩ := s.takeLosses_eq; rw [h]; rfl

/-- A port's pending set after a cause is added to one (R130, R165). -/
theorem State.addPending_pending (p q : MPort) (c : Cause) :
    (s.addPending p c).unit.pending.get q =
      if q = p ∧ s.fitted p = true then (s.unit.pending.get p).add c else s.unit.pending.get q := by
  unfold State.addPending
  by_cases h : s.fitted p = true
  · rw [if_pos h]; simp [PerPort.get_put, h]
  · rw [if_neg h]; simp [h]

/-- Adding a cause changes one pending set only. -/
theorem State.addPending_eq (p : MPort) (c : Cause) :
    ∃ x, s.addPending p c = s.withUnit { s.unit with pending := x } := by
  unfold State.addPending
  split
  · exact ⟨_, rfl⟩
  · exact ⟨s.unit.pending, rfl⟩

/-- A posting changes pending sets only. -/
theorem State.takePosting_eq (x : Posting) : ∃ y, s.takePosting x = s.withUnit { s.unit with pending := y } := by
  cases x with
  | toBoth c =>
    obtain ⟨y, hy⟩ := s.addPending_eq .a c
    obtain ⟨z, hz⟩ := (s.addPending .a c).addPending_eq .b c
    exact ⟨z, by rw [State.takePosting, State.addPendingBoth, hz, hy]; rfl⟩
  | toPort p c => exact s.addPending_eq p c

/-- A set holds a cause just added, and otherwise what it held. -/
theorem CauseSet.has_add (x : CauseSet) (c d : Cause) : (x.add c).has d = (x.has d || decide (d = c)) := by
  cases c <;> cases d <;> simp [CauseSet.add, CauseSet.has]

/-- A set without the causes of another. -/
theorem CauseSet.has_without (x y : CauseSet) (c : Cause) : (x.without y).has c = (x.has c && !y.has c) := by
  cases c <;> rfl

/-- A set has any cause if it has some one. -/
theorem CauseSet.any_iff (x : CauseSet) : x.any = true ↔ ∃ c, x.has c = true := by
  constructor
  · intro h
    rw [CauseSet.any] at h
    simp only [Bool.or_eq_true] at h
    rcases h with (((h | h) | h) | h) | h
    · exact ⟨.fenceDone, h⟩
    · exact ⟨.fault, h⟩
    · exact ⟨.trip, h⟩
    · exact ⟨.portDown, h⟩
    · exact ⟨.linkDown, h⟩
  · rintro ⟨c, h⟩
    cases c <;> simp_all [CauseSet.any, CauseSet.has]

/-! ## Transactions (R120) -/

/-- What a PUSH with all its record bytes shifts out, and how many free bytes it counts. -/
theorem MgmtPort.answered_eq (m : MgmtPort) (p : MPort) (status : Byte) (n : Nat) :
    ∃ later : List Byte, later.length = n - 18 ∧
      m.answered p status n =
        { m with
          pulling := none, miso := (List.replicate 17 0 ++ [status] ++ later).take n, drawn := m.drawn + (n - 18) } :=
  ⟨(List.range (n - 18)).map fun k => Config.afterStatus p (m.drawn + k), by simp, rfl⟩

/-! ## Clamps (R136) -/

/-- A clamped value is in its range. -/
theorem clampNat_mem {lo hi : Nat} (v : Nat) (h : lo ≤ hi) : lo ≤ clampNat lo hi v ∧ clampNat lo hi v ≤ hi := by
  unfold clampNat; omega

/-- A value in range is left alone. -/
theorem clampNat_of_mem {lo hi v : Nat} (h : lo ≤ v) (h' : v ≤ hi) : clampNat lo hi v = v := by
  unfold clampNat; omega

/-- A clamped signed value is in its range. -/
theorem clampInt_mem {lo hi : Int} (v : Int) (h : lo ≤ hi) : lo ≤ clampInt lo hi v ∧ clampInt lo hi v ≤ hi := by
  unfold clampInt; omega

/-- A signed value in range is left alone. -/
theorem clampInt_of_mem {lo hi v : Int} (h : lo ≤ v) (h' : v ≤ hi) : clampInt lo hi v = v := by
  unfold clampInt; omega

end Sys2Proof.Machine
end

