-- ==== Sys2Proof/Tests/Slice0.lean ====
section
/-! SUPPORT. The model's own tests: the well-formedness checks, worked examples of the manual, and for each statement with
hypotheses a state and operands that meet them. Expected values come from the manual's worked examples, named at each test. -/

namespace Sys2Proof.Tests

open Sys2Proof.Machine Sys2Proof.Safety

set_option Elab.async false

/-! ## Small states -/

/-- A command record with these first bytes, the rest 0. -/
def cmdOf (l : List Nat) : CommandRecord := Vector.ofFn fun i => byteOf (l.getD i.val 0)

/-- A link record of 8 bytes. -/
def linkOf (l : List Nat) : LinkRecord := Vector.ofFn fun i => byteOf (l.getD i.val 0)

/-- The part with RESET low. -/
def held : State := { State.reset with resetLow := true }

/-- The part with its fabric link UP. -/
def linked : State := State.reset.withLink { powerOnLink true with up := true }

/-- The part with a command record at the head of port A's queue. -/
def offering (l : List Nat) : State := State.reset.setMgmt .a { powerOnMgmt with commands := [cmdOf l] }

/-- A command of port A in execution. -/
def job (todo : List Request) (commit : Option Commit) (payload : Payload) : Running :=
  { port := .a, tag := 7, kind := 1, todo := todo, commit := commit, status := .done, scope := none, payload := payload,
    notify := true, drain := [] }

/-- The part with a command of port A in execution that has these requests to send. -/
def asking (todo : List Request) : State := State.reset.withRunning (some (job todo none .absent))

/-- The part with port `e` in service. -/
def serving (s : State) (e : TargetPort) : State := s.setMon e { powerOnMonitor with enable := true, linkUp := true }

/-- A flow in RUN at the Rate Engine. -/
def running (s : State) (f : Flow) (v : RateView) (rate : Nat) (integrator : Int) : State :=
  s.setRflow f { view := v, ctl := { powerOnController with state := .run, rate := rate, integrator := integrator } }

/-- An arbiter with a grant of 256 cells to F40 in slot 0 under generation 21, of which some cells remain. -/
def granting (remaining age : Nat) : Arbiter :=
  { powerOnArbiter with
    slots := Table.put powerOnArbiter.slots 0
      { generation := 21, grant := some { flow := 40, issued := 256, remaining := remaining, age := age } } }

/-- The part with that grant at T2, and a record passed to T2's arbiter. -/
def inbox (remaining : Nat) (m : ArbiterMsg) : State :=
  (State.reset.setArb 2 { granting remaining 1 with inbox := [m] }).setFlow 40
    { powerOnArbiterFlow with
      holder := some 2
      demand := { zeroDemand with backlog := 2048, outstanding := remaining, grantCount := 1 } }

/-- What a step leaves, or the state before where it stops. -/
def after (c : Instr) (s : State) : State :=
  match exec c s with
  | .next t => t
  | .fault _ => s
  | .refused _ => s

/-! ## Well-formedness: each check refuses an ill-formed term -/

/-- The check byte of an all-zero record is right, so it is no check failure. -/
theorem test_wf_recordCheckFailure : (Instr.recordCheckFailure (linkOf [])).wellFormed = false := by decide +kernel
/-- A record whose check byte is wrong is none of the four sorts that pass (kind 1, 2, 3 and unknown). -/
theorem test_wf_backlog_check : (Instr.backlog (linkOf [1])).wellFormed = false := by decide +kernel
theorem test_wf_done_check : (Instr.done (linkOf [2])).wellFormed = false := by decide +kernel
theorem test_wf_tstat_check : (Instr.tstatRoute (linkOf [3])).wellFormed = false := by decide +kernel
theorem test_wf_unknown_check : (Instr.unknownKindRecord (linkOf [9])).wellFormed = false := by decide +kernel
/-- An all-zero record passes its check and has an unknown kind (section 11.1). -/
theorem test_wf_unknown : (Instr.unknownKindRecord (linkOf [])).wellFormed = true := by decide +kernel
/-- A record of another kind is refused at each row. -/
theorem test_wf_backlog_kind : (Instr.backlog (withCheck 2 0 0 0 0 0 0)).wellFormed = false := by decide +kernel
theorem test_wf_done_kind : (Instr.done (withCheck 3 0 0 0 0 0 0)).wellFormed = false := by decide +kernel
theorem test_wf_tstat_kind : (Instr.tstatRoute (withCheck 1 0 0 0 0 0 0)).wellFormed = false := by decide +kernel
theorem test_wf_unknown_kind : (Instr.unknownKindRecord (withCheck 1 0 0 0 0 0 0)).wellFormed = false := by decide +kernel

/-- A PULL is the event of its own rows; a PUSH, a PEEK, another selector byte and none are transactions of the row PUSH. -/
theorem test_wf_push :
    (Instr.push .a [2, 0, 0]).wellFormed = false ∧ (Instr.push .a [1]).wellFormed = true ∧
      (Instr.push .a [3]).wellFormed = true ∧ (Instr.push .a [4]).wellFormed = true ∧
      (Instr.push .a []).wellFormed = true := by decide +kernel

/-! ## Record formats -/

/-- No row of the table gives bits, so no word spells a command. -/
theorem test_decode_none : decodeTableWord 8 1 = none := rfl

/-- The DONE record of the example of chapter 11: T2.1.22, 30 cells, end mark clear. -/
theorem test_done_fields :
    doneFields (linkOf [2, 4, 86, 0, 30, 0, 0, 0]) =
      { tag := { port := 2, slot := 1, generation := 22 }, cells := 30, endMark := false } := by decide +kernel

/-- The CRC-8 with generator x^8 + x^2 + x + 1 of one byte 1 is 7 (section 11.1). -/
theorem test_crc : crc8 [1] = 7 := by decide +kernel

/-- FLOW_SET of F41 to T2, class 3, weight 20, floor 40, ceiling 400, trip enable (chapter 1, event 3). -/
theorem test_parse_flowSet :
    parseCommand (cmdOf [1, 7, 41, 1, 61, 2, 0, 3, 20, 0, 40, 1, 144, 0, 0, 1]) =
      .ok (.flowSet 41
        { port := some 2, group := none, urgency := some 3, weight := some 20, floor := some 40, ceiling := some 400
          burstCap := none, profile := none, tripEnable := some true }) := by decide +kernel

/-! ## The worked example of chapter 3: F40 at two closes in RUN, and on its ramp -/

/-- Profile P3 of that example. -/
def p3 : Profile :=
  { kp := 512, kpShift := 9, ki := 64, kiShift := 8, positiveClamp := 400, negativeClamp := 400, startClamp := 200,
    integratorClamp := 2000, startStep := 100, startHold := 2, windupStop := true }

/-- The fields of F40 in that example. -/
def f40 (st : FlowState) (rate : Nat) (integrator : Int) (sat : Saturation) (count : Nat) : Controller :=
  { powerOnController with state := st, rate := rate, integrator := integrator, saturation := sat, startCount := count }

/-- Close 7200: rate 600, integrator 180, saturation high. -/
theorem test_close_7200 : runController p3 0 600 1600 600 540 (f40 .run 560 120 .none 0) =
    { f40 .run 600 180 .high 0 with lastError := 60 } := by decide +kernel
/-- Close 7201, with a negative error: rate 520, integrator 80. -/
theorem test_close_7201 : runController p3 0 600 1600 600 700 (f40 .run 600 180 .high 0) =
    { f40 .run 520 80 .none 0 with lastError := -100 } := by decide +kernel
/-- Close 7201 with 560 delivered: windup stop holds the integrator at 180. -/
theorem test_close_windup : runController p3 0 600 1600 600 560 (f40 .run 600 180 .high 0) =
    { f40 .run 600 180 .high 0 with lastError := 40 } := by decide +kernel
/-- Close 1 of the ramp: the start-step limit acts. -/
theorem test_ramp_1 : runController p3 0 600 1600 600 0 (f40 .start 0 0 .none 0) =
    { f40 .start 100 200 .high 1 with lastError := 200 } := by decide +kernel
/-- Close 7 of the ramp: the exit to RUN. -/
theorem test_ramp_7 : runController p3 0 600 1600 600 600 (f40 .start 600 200 .high 6) =
    f40 .run 600 200 .high 7 := by decide +kernel

/-! ## The worked example of chapter 2: a close of T2 -/

/-- The Rate Engine's view of a flow bound to T2. -/
def atT2 (weight floor ceiling : Nat) : RateView :=
  { port := 2, group := 0, weight := weight, floor := floor, ceiling := ceiling, profile := 0, tripEnable := false }

/-- The tally of expiry 7200. -/
def t7200 : Tally :=
  { port := 2
    entries :=
      [{ flow := 5, delivered := 410, demanding := true, grants := 2 },
       { flow := 7, delivered := 0, demanding := false, grants := 0 },
       { flow := 12, delivered := 380, demanding := true, grants := 1 },
       { flow := 33, delivered := 12, demanding := false, grants := 0 },
       { flow := 40, delivered := 540, demanding := true, grants := 1 }] }

/-- T2 with its five flows and that tally at the head of the queue. -/
def closing : State :=
  let s := running (running (running (running (serving State.reset 2) 5 (atT2 10 300 800) 425 0) 7 (atT2 20 50 300) 50 0)
    12 (atT2 30 50 1600) 425 0) 40 (atT2 60 0 600) 560 0
  let s := s.setRflow 33 { view := atT2 5 0 16383, ctl := powerOnController }
  s.withRate { s.rate with capacity := Table.put s.rate.capacity 2 1600, queue := [t7200] }

/-- The targets are 425, 425 and 600. -/
theorem test_close_targets :
    closing.target t7200 5 = 425 ∧ closing.target t7200 12 = 425 ∧ closing.target t7200 40 = 600 := by decide +kernel
/-- The active set is F5, F12 and F40. -/
theorem test_close_active : closing.activeSet t7200 = [5, 12, 40] := by decide +kernel
/-- The refill set names F5, F7, F12 and F40; under the transparent profile F40 takes its target. -/
theorem test_close_refills :
    ((after .tallyComputation closing).arb 2).refills = [[(5, 425), (7, 50), (12, 425), (40, 600)]] := by decide +kernel
/-- The merged entry of the second example: delivered 790, demanding no, one grant. -/
theorem test_merge :
    TallyEntry.merge { flow := 5, delivered := 410, demanding := true, grants := 2 }
      { flow := 5, delivered := 380, demanding := false, grants := 1 } =
      { flow := 5, delivered := 790, demanding := false, grants := 1 } := by decide +kernel

/-! ## The worked example of chapter 5: reports and completions -/

/-- T2 in service with F40 ready for its first grant. -/
def ready : State :=
  let s := running (serving State.reset 2) 40 (atT2 60 0 600) 600 0
  let s := s.setArb 2
    { powerOnArbiter with
      budget := 1600, view := { powerOnArbiter.view with capacity := 1600 }
      slots := Table.const 8 { generation := 20, grant := none } }
  s.setFlow 40
    { holder := some 2, view := { urgency := 5, burstCap := 512, tripEnable := false }
      demand := { zeroDemand with backlog := 2048, balance := 512 } }

/-- The first grant of event 1: 256 cells as T2.0.21, with budget 1344 left. -/
theorem test_grant :
    Table.get ((after (.grantIssue 2) ready).arb 2).slots 0 =
        { generation := 21, grant := some { flow := 40, issued := 256, remaining := 256, age := 0 } } ∧
      ((after (.grantIssue 2) ready).arb 2).budget = 1344 := by decide +kernel
/-- Event 6: 100 cells of 256, end clear; 156 remain. -/
theorem test_progress :
    (Table.get ((after (.doneMatch 2) (inbox 256 (.done ⟨2, 0, 21⟩ 100 false))).arb 2).slots 0).grant =
      some { flow := 40, issued := 256, remaining := 156, age := 0 } := by decide +kernel
/-- Event 7: 56 cells of 256 with the end mark; 200 are refunded to a flow in RUN. -/
theorem test_refund :
    ((after (.doneMatch 2) (running (inbox 256 (.done ⟨2, 0, 21⟩ 56 true)) 40 (atT2 60 0 600) 600 0)).flow 40).demand =
      { zeroDemand with backlog := 2048, balance := 200, delivered := 56 } := by decide +kernel
/-- Event 10: 200 cells against 156; all are credited and OVERRUN is reported. -/
theorem test_overrun :
    ((after (.doneMatch 2) (inbox 156 (.done ⟨2, 0, 21⟩ 200 false))).flow 40).demand.delivered = 200 ∧
      ((after (.doneMatch 2) (inbox 156 (.done ⟨2, 0, 21⟩ 200 false))).arb 2).reports =
        [{ kind := .overrun, flow := some 40, port := some 2 }] := by decide +kernel
/-- Event 12: another generation is late. -/
theorem test_late :
    ((after (.doneMatch 2) (inbox 156 (.done ⟨2, 0, 22⟩ 30 false))).arb 2).reports =
      [{ kind := .lateDone, flow := none, port := some 2 }] := by decide +kernel

/-! ## Hypotheses that can be met: the block as a whole -/

theorem witness_ResetLowTakesNothing :
    held.resetLow = true ∧ Instr.laneLockGain ≠ .powerOnReset ∧ (∀ v, Instr.laneLockGain ≠ .resetRelease v) ∧
      Instr.laneLockLoss ≠ .powerOnReset ∧ (∀ v, Instr.laneLockLoss ≠ .resetRelease v) ∧
      Instr.epochExpiry ≠ .laneLockGain ∧ Instr.epochExpiry ≠ .laneLockLoss := by decide +kernel
theorem witness_ResetReleaseSamplesSolo :
    held.resetLow = true ∧ State.reset.resetLow = false ∧ State.reset.link.laneLock = true ∧ State.reset.pending = [] :=
  ⟨rfl, rfl, rfl, rfl⟩
theorem witness_EpochExpiryAdvancesTimer : Live State.reset ∧ State.reset.timer.pendingPeriod = none := ⟨rfl, rfl⟩
theorem witness_EpochExpiryAdvancesTimer_pending :
    Live (State.reset.withTimer { powerOnTimer with pendingPeriod := some .us8 }) ∧
      (State.reset.withTimer { powerOnTimer with pendingPeriod := some .us8 }).timer.pendingPeriod = some .us8 := ⟨rfl, rfl⟩
theorem witness_EpochSetChangesPendingPeriod :
    (Asks (asking [.epochSet .us8]) (job [.epochSet .us8] none .absent) (.epochSet .us8) [] ∧
      Period.us8 ≠ (asking [.epochSet .us8]).timer.period) ∧
    Asks (asking [.epochSet .us16]) (job [.epochSet .us16] none .absent) (.epochSet .us16) [] ∧
      Period.us16 = (asking [.epochSet .us16]).timer.period := ⟨⟨⟨rfl, rfl, rfl⟩, by decide⟩, ⟨rfl, rfl, rfl⟩, rfl⟩

/-- An arbiter with an expiry to take, and a grant of some age; its grant lifetime is 4. -/
def expiring (age : Nat) : State := State.reset.setArb 2 { granting 100 age with expiries := 1 }

theorem witness_ArbiterTakesExpiryWhole :
    Live (expiring 3) ∧ 0 < ((expiring 3).arb 2).expiries ∧ slotsWhere (expiring 2) 2 (ages (expiring 2) 2) = [] ∧
      slotsWhere (expiring 3) 2 (ages (expiring 3) 2) =
        [(0, { flow := 40, issued := 256, remaining := 100, age := 3 })] := by
  decide +kernel

/-- The same with the grant's tag in the drain set of port A's waiting fence. -/
def expiringFenced (drain : List GrantTag) : State :=
  (expiring 3).setMgmt .a
    { powerOnMgmt with promised := true, fence := some { tag := 7, kind := 10, notify := true, drain := drain } }

/-- A grant that expires leaves the drain set that holds its tag in the same event (R28). -/
theorem test_expiry_drains :
    ((after (.arbiterEpochExpiry 2) (expiringFenced [⟨2, 0, 21⟩, ⟨7, 0, 1⟩])).mgmt .a).fence =
      some { tag := 7, kind := 10, notify := true, drain := [⟨7, 0, 1⟩] } ∧
    ((after (.arbiterEpochExpiry 2) (expiringFenced [⟨2, 0, 21⟩])).mgmt .a).fence = none ∧
    (after (.arbiterEpochExpiry 2) (expiringFenced [⟨2, 0, 21⟩])).cmd.posts = [.toPort .a .fenceDone] := by decide +kernel

/-! ## The Rate Engine -/

/-- T2's tally on its way, with a queue. -/
def arriving (queue : List Tally) : State :=
  (State.reset.setArb 2 { powerOnArbiter with tallies := [t7200] }).withRate { powerOnRate with queue := queue }

theorem witness_TallyJoinsOrMerges_joins :
    Live (arriving [{ port := 4, entries := [] }]) ∧ ((arriving [{ port := 4, entries := [] }]).arb 2).tallies = t7200 :: [] ∧
      ∀ x ∈ (arriving [{ port := 4, entries := [] }]).rate.queue, x.port ≠ t7200.port := by decide +kernel
theorem witness_TallyJoinsOrMerges_merges :
    Live (arriving [{ port := 4, entries := [] }, t7200]) ∧
      ((arriving [{ port := 4, entries := [] }, t7200]).arb 2).tallies = t7200 :: [] ∧
      (arriving [{ port := 4, entries := [] }, t7200]).rate.queue =
        ([{ port := 4, entries := [] }] : List Tally) ++ t7200 :: [] ∧
      ∀ x ∈ ([{ port := 4, entries := [] }] : List Tally), x.port ≠ t7200.port := by decide +kernel

theorem witness_TallyDividesTheShare :
    Live closing ∧ closing.rate.queue = t7200 :: [] ∧ (closing.mon 2).enable = true ∧ (closing.mon 2).linkUp = true ∧
      Active closing t7200 40 ∧ ¬ Active closing t7200 33 ∧ (closing.rflow 40).ctl.frozen = false := by decide +kernel

theorem witness_RateControllerStages :
    Live closing ∧ closing.rate.queue = t7200 :: [] ∧ (closing.mon 2).enable = true ∧ (closing.mon 2).linkUp = true ∧
      Active closing t7200 5 ∧ (closing.rflow 5).ctl.frozen = false := by decide +kernel

/-- The same close with F40 frozen. -/
def closingFrozen : State :=
  closing.setRflow 40 { closing.rflow 40 with ctl := { (closing.rflow 40).ctl with frozen := true } }

theorem witness_TallyDividesTheShare_frozen :
    Live closingFrozen ∧ closingFrozen.rate.queue = t7200 :: [] ∧ (closingFrozen.mon 2).enable = true ∧
      (closingFrozen.mon 2).linkUp = true ∧ Active closingFrozen t7200 40 ∧
      (closingFrozen.rflow 40).ctl.frozen = true := by decide +kernel

/-- The tally with its port out of service. -/
def closingDisabled : State := closing.setMon 2 powerOnMonitor

theorem witness_TallyDividesTheShare_disabled :
    Live closingDisabled ∧ closingDisabled.rate.queue = t7200 :: [] ∧ (closingDisabled.mon 2).enable = false := by
  decide +kernel

theorem witness_TargetsFitTheCapacity :
    sumActive closing t7200 (·.floor) ≤ Table.get closing.rate.capacity t7200.port ∧
      (∀ f ∈ activeFlows closing t7200, (closing.rflow f).view.floor ≤ (closing.rflow f).view.ceiling) ∧
      40 ∈ activeFlows closing t7200 ∧ (closing.rflow 40).ctl.frozen = false ∧
      (Table.get closing.rate.profiles (closing.rflow 40).view.profile).kp = 0 ∧
      (Table.get closing.rate.profiles (closing.rflow 40).view.profile).ki = 0 ∧
      (Table.get closing.rate.profiles (closing.rflow 40).view.profile).startStep = 16383 ∧
      (closing.rflow 40).view.ceiling ≤ 16383 := by decide +kernel

/-- A refill set on its way to T2's arbiter. -/
def refilling (s : State) : State := s.setArb 2 { s.arb 2 with refills := [[(40, 100)]] }

theorem witness_RefillSetApplied :
    Live (refilling ready) ∧ ((refilling ready).arb 2).refills = [(40, 100)] :: [] ∧ ((refilling ready).mon 2).enable = true ∧
      Holds (refilling ready) 2 40 ∧ ¬ Off (refilling ready) 40 ∧ ¬ TrippedAt (refilling ready) 2 40 := by decide +kernel
theorem witness_RefillSetApplied_disabled :
    Live (refilling State.reset) ∧ ((refilling State.reset).arb 2).refills = [(40, 100)] :: [] ∧
      ((refilling State.reset).mon 2).enable = false := by decide +kernel

/-! ## Grants and the fabric link -/

theorem witness_GrantIssuedToChosenFlow : Live ready ∧ Chosen ready 2 40 ∧ (freeSlots ready 2).head? = some 0 := by decide +kernel
theorem witness_GrantIssuedToChosenFlow_none : Live State.reset ∧ ∀ f, ¬ Candidate State.reset 2 f := by decide +kernel

/-- An arbiter's record waiting at the Link Interface. -/
def waiting (x : OutRecord) : State :=
  State.reset.withLink { powerOnLink true with up := true, waiting := Table.put (Table.const 8 []) 2 [x] }

theorem witness_OldestRecordIsSent :
    (Live (waiting (.grant ⟨2, 0, 21⟩ 40 256)) ∧ (waiting (.grant ⟨2, 0, 21⟩ 40 256)).link.up = true ∧
      Table.get (waiting (.grant ⟨2, 0, 21⟩ 40 256)).link.waiting 2 = .grant ⟨2, 0, 21⟩ 40 256 :: []) ∧
    Table.get (waiting (.cancel ⟨2, 0, 21⟩ 40 256)).link.waiting 2 = .cancel ⟨2, 0, 21⟩ 40 256 :: [] := by decide +kernel

/-- A kind 1, a kind 2 and a kind 3 record that pass their checks. -/
def backlogRecord (host tag : Nat) (valid : Bool) (e cells : Nat) : LinkRecord :=
  withCheck 1 (byteOf (host * 8 + tag * 2 + bitOf valid)) (byteOf e) (byteOf (cells / 256)) (byteOf cells) 0 0

/-- A DONE record for T2.0.21. -/
def doneRecord (cells : Nat) : LinkRecord := withCheck 2 4 21 (byteOf (cells / 256)) (byteOf cells) 0 0

/-- A TSTAT record for T2. -/
def tstatRecord : LinkRecord := withCheck 3 2 1 0 0 0 0

/-- The link with some counts. -/
def counting (up : Bool) (fails goods : Nat) : State :=
  State.reset.withLink { powerOnLink true with up := up, failCount := fails, goodCount := goods }

/-- The link DOWN with a good count, and a link-loss request that T5's monitor has not taken. -/
def untaken (goods : Nat) : State := (counting false 0 goods).setMon 5 { powerOnMonitor with inbox := [.linkLoss] }

theorem witness_LinkStateCounts :
    Live (counting true 6 0) ∧ (counting true 6 0).link.laneLock = true ∧ checkPasses (linkOf [1]) = false ∧
      (counting true 6 0).link.up = true ∧ (counting true 6 0).link.failCount < 7 ∧
      7 ≤ (counting true 7 0).link.failCount ∧ (counting false 0 2).link.up = false ∧
      (counting false 0 2).link.goodCount < 3 ∧
      (3 ≤ (untaken 3).link.goodCount ∧ (untaken 3).link.up = false ∧ .linkLoss ∈ ((untaken 3).mon 5).inbox) ∧
      (Instr.done (doneRecord 30)).wellFormed = true ∧
      (Instr.backlog (backlogRecord 10 1 true 2 300)).wellFormed = true ∧ (Instr.tstatRoute tstatRecord).wellFormed = true := by
  decide +kernel

/-- A queued tally is discarded once the fabric link is DOWN, though no monitor has taken its link-loss request yet (R42). -/
theorem test_link_loss_disables :
    let s := closing.withLink { closing.link with up := true }
    (s.mon 2).enable = true ∧ ((after .laneLockLoss s).mon 2).enable = false ∧
      ((after .laneLockLoss s).mon 2).linkUp = true ∧
      (after .tallyComputation (after .laneLockLoss s)).rate.queue = [] ∧
      ((after .tallyComputation (after .laneLockLoss s)).arb 2).refills = [] := by decide +kernel
/-- The fourth good record makes the link UP although T5's monitor has a link-loss request to take: it is taken in the same
event, and T5 is DOWN when the link is UP (R117, R170). -/
theorem test_fourth_record_takes_losses :
    let s := (untaken 3).setMon 5 { powerOnMonitor with linkUp := true, enable := true, inbox := [.status true 1, .linkLoss] }
    let t := after (.done (doneRecord 30)) s
    t.link.up = true ∧ (t.mon 5).linkUp = false ∧ (t.mon 5).enable = false ∧ (t.mon 5).inbox = [] ∧
      (t.arb 5).shutdowns = [false] := by decide +kernel
theorem witness_HandledRecordsAreRouted :
    Handles linked ∧ Handles (counting false 0 3) ∧
      (checkPasses (linkOf []) = true ∧ (linkOf [])[0] ≠ 1 ∧ (linkOf [])[0] ≠ 2 ∧ (linkOf [])[0] ≠ 3) ∧
      (checkPasses (doneRecord 1025) = true ∧ (doneRecord 1025)[0] = 2 ∧ 1024 < (doneFields (doneRecord 1025)).cells) ∧
      (checkPasses (doneRecord 1024) = true ∧ (doneFields (doneRecord 1024)).cells ≤ 1024) ∧
      checkPasses tstatRecord = true ∧ tstatRecord[0] = 3 := by decide +kernel

/-- The link UP, H10 TAGGED with backlog limit 2048, and F40 to F42 naming T2, F40 and F41 in RUN. -/
def reporting : State :=
  let s := running (running linked 40 (atT2 60 0 600) 600 0) 41 (atT2 60 0 600) 600 0
  s.withLink { s.link with
    hosts := Table.put s.link.hosts 10 { tagged := true, limit := 2048 }
    flowPort := Table.put (Table.put s.link.flowPort 40 2) 41 2 }

theorem witness_BacklogChecksInOrder :
    Handles reporting ∧
      (checkPasses (backlogRecord 24 0 true 2 10) = true ∧ (backlogRecord 24 0 true 2 10)[0] = 1 ∧
        24 ≤ (backlogFields (backlogRecord 24 0 true 2 10)).host) ∧
      (Table.get reporting.link.hosts 10).tagged = true ∧ (backlogFields (backlogRecord 10 0 false 2 100)).tagValid = false ∧
      (10 : HostPort).val = (backlogFields (backlogRecord 10 0 true 2 3000)).host ∧
      ¬ Off reporting 40 ∧ Table.get reporting.link.flowPort 40 = (backlogFields (backlogRecord 10 0 true 2 3000)).port ∧
      (Table.get reporting.link.hosts 10).limit < (backlogFields (backlogRecord 10 0 true 2 2049)).cells ∧
      (backlogFields (backlogRecord 10 0 true 2 2048)).cells ≤ (Table.get reporting.link.hosts 10).limit ∧
      Off reporting 42 ∧ Table.get reporting.link.flowPort 40 ≠ (backlogFields (backlogRecord 10 0 true 5 80)).port := by
  decide +kernel
/-- An UNTAGGED host port, as after power-on: flow H10 × 4 whatever tag and tag valid say (R90). -/
theorem witness_BacklogChecksInOrder_untagged :
    let s := reporting.withLink { reporting.link with hosts := Table.const 24 { tagged := false, limit := 2048 } }
    Handles s ∧ (Table.get s.link.hosts 10).tagged = false ∧
      (checkPasses (backlogRecord 10 3 false 2 50) = true ∧ (backlogRecord 10 3 false 2 50)[0] = 1) ∧
      (10 : HostPort).val = (backlogFields (backlogRecord 10 3 false 2 50)).host ∧
      (40 : Flow).val = (10 : HostPort).val * 4 + 0 ∧ ¬ Off s 40 ∧ Table.get s.link.flowPort 40 = 2 ∧
      Off (s.setRflow 40 { s.rflow 40 with ctl := powerOnController }) 40 ∧
      (backlogFields (backlogRecord 10 3 false 2 50)).cells ≤ (Table.get s.link.hosts 10).limit ∧
      (Table.get s.link.hosts 10).limit < (backlogFields (backlogRecord 10 3 false 2 3000)).cells := by decide +kernel
/-- A report of an UNTAGGED host port reaches its flow at tag 0, with tag valid clear (R90, R94). -/
theorem test_backlog_untagged :
    let s := reporting.withLink { reporting.link with hosts := Table.const 24 { tagged := false, limit := 2048 } }
    ((after (.backlog (backlogRecord 10 3 false 2 50)) s).arb 2).inbox = [.backlog 40 50 false] := by decide +kernel
theorem witness_BacklogChecksInOrder_flow :
    (backlogFields (backlogRecord 10 2 true 2 50)).tagValid = true ∧
      (42 : Flow).val = (10 : HostPort).val * 4 + (backlogFields (backlogRecord 10 2 true 2 50)).tag.val := by decide +kernel

theorem witness_BacklogReportApplied :
    (Live (inbox 100 (.backlog 41 250 true)) ∧
      ((inbox 100 (.backlog 41 250 true)).arb 2).inbox = .backlog 41 250 true :: [] ∧ Off (inbox 100 (.backlog 41 250 true)) 41) ∧
    (let s := running (inbox 100 (.backlog 40 250 true)) 40 (atT2 60 0 600) 600 0
     Live s ∧ (s.arb 2).inbox = .backlog 40 250 true :: [] ∧ ¬ Off s 40 ∧ Holds s 2 40) ∧
    (let s := running (inbox 100 (.backlog 41 250 true)) 41 (atT2 60 0 600) 600 0
     ¬ Off s 41 ∧ ¬ Holds s 2 41) := by decide +kernel

theorem witness_CompletionsByCase :
    Completes (inbox 156 (.done ⟨2, 0, 22⟩ 30 false)) 2 ⟨2, 0, 22⟩ 30 false [] ∧
    (Completes (inbox 156 (.done ⟨2, 0, 21⟩ 155 false)) 2 ⟨2, 0, 21⟩ 155 false [] ∧
      Matches (inbox 156 (.done ⟨2, 0, 21⟩ 155 false)) 2 ⟨2, 0, 21⟩ { flow := 40, issued := 256, remaining := 156, age := 1 }) ∧
    (Completes (inbox 156 (.done ⟨2, 0, 21⟩ 155 true)) 2 ⟨2, 0, 21⟩ 155 true [] ∧
      Matches (inbox 156 (.done ⟨2, 0, 21⟩ 155 true)) 2 ⟨2, 0, 21⟩ { flow := 40, issued := 256, remaining := 156, age := 1 }) ∧
    Completes (inbox 156 (.done ⟨2, 0, 21⟩ 157 true)) 2 ⟨2, 0, 21⟩ 157 true [] ∧
      Matches (inbox 156 (.done ⟨2, 0, 21⟩ 157 true)) 2 ⟨2, 0, 21⟩
        { flow := 40, issued := 256, remaining := 156, age := 1 } := by decide +kernel
theorem witness_CompletionsByCase_late :
    ∀ g, ¬ Matches (inbox 156 (.done ⟨2, 0, 22⟩ 30 false)) 2 ⟨2, 0, 22⟩ g := by
  have h : (Table.get ((inbox 156 (.done ⟨2, 0, 22⟩ 30 false)).arb 2).slots 0).generation ≠ 22 := by decide +kernel
  exact fun g hg => h hg.2
theorem witness_FullCompletion :
    Completes (inbox 156 (.done ⟨2, 0, 21⟩ 156 true)) 2 ⟨2, 0, 21⟩ 156 true [] ∧
      Matches (inbox 156 (.done ⟨2, 0, 21⟩ 156 true)) 2 ⟨2, 0, 21⟩
        { flow := 40, issued := 256, remaining := 156, age := 1 } := by decide +kernel

/-! ## Target port conditions, faults and events -/

/-- A Port Monitor of T5 with a message to take. -/
def telling (up : Bool) (m : MonitorMsg) : State :=
  State.reset.setMon 5 { powerOnMonitor with linkUp := up, threshold := 3, inbox := [m] }

theorem witness_MonitorTakesStatus :
    (Live (telling true (.status false 0)) ∧ ((telling true (.status false 0)).mon 5).inbox = .status false 0 :: [] ∧
      ((telling true (.status false 0)).mon 5).linkUp = true) ∧
    ((telling false (.status false 0)).mon 5).linkUp = false ∧
    (((telling true (.status true 3)).mon 5).inbox = .status true 3 :: [] ∧
      ((telling true (.status true 3)).mon 5).threshold ≤ 3 ∧ ((telling true (.status true 3)).mon 5).tripFlag = false) ∧
    2 < ((telling true (.status true 2)).mon 5).threshold ∧
    (((telling true .linkLoss).mon 5).inbox = .linkLoss :: [] ∧ ((telling true .linkLoss).mon 5).linkUp = true) ∧
    ((telling false .linkLoss).mon 5).linkUp = false := by decide +kernel

/-- An arbiter with a shutdown request to take, and a grant. -/
def shutting (cancels : Bool) : State := State.reset.setArb 2 { granting 100 3 with shutdowns := [cancels] }

theorem witness_ShutdownCancelsGrants :
    Live (shutting true) ∧ ((shutting true).arb 2).shutdowns = true :: [] ∧ ((shutting false).arb 2).shutdowns = false :: [] ∧
      Holds (shutting true) 0 40 ∧ ¬ Holds (shutting true) 2 40 := by decide +kernel

/-- A LATE_DONE report of T2's arbiter. -/
def lateT2 : FaultReport := { kind := .lateDone, flow := none, port := some 2 }
/-- A record in use for a report. -/
def recordFor (r : FaultReport) : FaultRecord := { key := r, first := 8000, last := 8000, count := 1 }

/-- The unit with a fault table, and a LATE_DONE report of T2's arbiter on its way. -/
def faulty (table : Table (Option FaultRecord) 8) (overflow : Bool) : State :=
  (State.reset.setArb 2 { powerOnArbiter with reports := [lateT2] }).withUnit
    { powerOnUnit with table := table, overflow := overflow }

/-- A table that is full of other records. -/
def fullTable : Table (Option FaultRecord) 8 :=
  Table.tab fun i => some (recordFor { kind := .overrun, flow := some 40, port := some i })

theorem witness_FaultReportTaken_match :
    Live (faulty (Table.put (Table.const 8 none) 0 (some (recordFor lateT2))) false) ∧
      (faulty (Table.put (Table.const 8 none) 0 (some (recordFor lateT2))) false).reportsOf (.arbiter 2) = lateT2 :: [] ∧
      Table.get (faulty (Table.put (Table.const 8 none) 0 (some (recordFor lateT2))) false).unit.table 0 =
        some (recordFor lateT2) ∧ (recordFor lateT2).key = lateT2 := by decide +kernel
theorem witness_FaultReportTaken_empty :
    (∀ k : FaultIx,
      ((Table.get (faulty (Table.const 8 none) false).unit.table k).any fun x => decide (x.key = lateT2)) = false) ∧
      Table.get (faulty (Table.const 8 none) false).unit.table 0 = none := by decide +kernel
theorem witness_FaultReportTaken_full :
    (∀ k : FaultIx, ((Table.get (faulty fullTable true).unit.table k).any fun x => decide (x.key = lateT2)) = false) ∧
      (∀ k : FaultIx, Table.get (faulty fullTable true).unit.table k ≠ none) ∧ (faulty fullTable true).unit.overflow = true ∧
      (faulty fullTable false).unit.overflow = false := by decide +kernel

/-- The part with postings of the executor on their way. -/
def posting (l : List Posting) : State := State.reset.withCmd { powerOnExecutor with posts := l }

theorem witness_PostingTaken :
    (Live (State.reset.withLink { powerOnLink true with posts := [.toBoth .linkDown] }) ∧
      (State.reset.withLink { powerOnLink true with posts := [.toBoth .linkDown] }).postsOf .link =
        [] ++ .toBoth .linkDown :: [] ∧ postedTo (.toBoth .linkDown) .b = true) ∧
    (posting [.toPort .b .fenceDone, .toPort .a .fenceDone]).postsOf .executor =
        [.toPort .b .fenceDone] ++ .toPort .a .fenceDone :: [] ∧
      (∀ y ∈ [Posting.toPort .b .fenceDone], postedTo y .a = false) ∧
      postedTo (.toPort .a .fenceDone) .a = true := by decide +kernel
/-- One posting to both ports is pending at both after one step (R165). -/
theorem test_posting_whole :
    let t := after (.eventPost .link .a) (State.reset.withLink { powerOnLink true with posts := [.toBoth .linkDown] })
    t.unit.pending.a = { noCauses with linkDown := true } ∧ t.unit.pending.b = { noCauses with linkDown := true } := by
  decide +kernel

/-! ## Management ports and the taking of commands -/

/-- The part with only port A fitted. -/
def solo : State := { State.reset with solo := true }

/-- A port whose command queue holds some commands. -/
def crowded (n : Nat) : State := State.reset.setMgmt .a { powerOnMgmt with commands := List.replicate n (cmdOf []) }

/-- The bytes of a PUSH of `n` record bytes, its selector byte first. -/
def pushing (n : Nat) : List Byte := 1 :: List.replicate n 0

theorem witness_PushPeekOrIgnored :
    (Live solo ∧ solo.solo = true) ∧ ¬ (State.reset.solo = true ∧ MPort.a = .b) ∧ ¬ (solo.solo = true ∧ MPort.a = .b) ∧
      ((pushing 15).head? = some 1 ∧ (pushing 15).length < 17 ∧ 17 ≤ (pushing 16).length) ∧
      16 ≤ ((crowded 16).mgmt .a).commands.length ∧ ((crowded 15).mgmt .a).commands.length < 16 ∧
      ((crowded 16).mgmt .a).responses.length ≤ 16 ∧ ([3, 0, 0] : List Byte).head? = some 3 ∧
      (([] : List Byte).head? ≠ some 1 ∧ ([] : List Byte).head? ≠ some 2 ∧ ([] : List Byte).head? ≠ some 3) ∧
      ([0, 1] : List Byte).head? ≠ some 1 ∧ ([2] : List Byte).head? = some 2 := by decide +kernel
/-- The status byte shows in the byte time after the sixteenth record byte, and not before (R120, R171). -/
theorem test_push_status :
    ((after (.push .a (pushing 16)) State.reset).mgmt .a).miso = List.replicate 17 0 ∧
      ((after (.push .a (pushing 17)) State.reset).mgmt .a).miso = List.replicate 17 0 ++ [1] ∧
      ((after (.push .a (pushing 16)) State.reset).mgmt .a).commands = [cmdOf []] := by decide +kernel
/-- Three bytes clocked after the status byte are shifted out as free bytes, and counted (R120, log entry 29). -/
theorem test_push_after_status :
    let m := (after (.push .a (pushing 20)) State.reset).mgmt .a
    m.miso.take 18 = List.replicate 17 0 ++ [1] ∧ m.miso.length = 21 ∧ m.drawn = 3 := by decide +kernel
/-- The first PEEK after power-on reads free count 16 and nothing else (section 7.7), and zeros follow the word (R122). -/
theorem test_peek :
    ((after (.push .a [3, 0, 0, 0]) State.reset).mgmt .a).miso = [0, 128, 0, 0] ∧ solo.peekWord .b = none := by
  decide +kernel
theorem witness_PullReturnsTheHead :
    Live State.reset ∧ ¬ (State.reset.solo = true ∧ MPort.a = .b) ∧ Live solo ∧ solo.solo = true := by decide +kernel
/-- A DONE response with no payload, as a PULL shifts it out: 0, tag 7, kind 11, status 1, scope 255 (R171, R173). -/
theorem test_pull :
    ((after (.pull .a 4)
      (State.reset.setMgmt .a
        { powerOnMgmt with
          responses := [{ tag := 7, kind := 11, status := .done, scope := none, payload := .absent }] })).mgmt .a).miso =
      [0, 7, 11, 1, 255] := by decide +kernel
theorem witness_PortClearEmptiesThePort : Live solo ∧ solo.solo = true ∧ ¬ (solo.solo = true ∧ MPort.a = .b) := by decide +kernel

theorem witness_CommandTakenInTurn :
    Offers (offering [11, 7]) .a (cmdOf [11, 7]) ∧
      (Live (asking [.clearing 40]) ∧ (asking [.clearing 40]).cmd.running.isSome = true) ∧
      ¬ Ready (State.reset.mgmt .a) ∧ ¬ Ready (State.reset.mgmt .b) ∧
      rowOf (cmdOf [11, 7]) = some .reserveLock ∧ rowOf (cmdOf [0]) = some .unknownCommand ∧
      rowOf (cmdOf [17]) = some .eventAck ∧ rowOf (cmdOf [18]) = some .unknownCommand ∧
      rowOf (cmdOf [9, 0, 0, 2]) = some .reshapeThaw ∧ rowOf (cmdOf [9, 0, 0, 3]) = none := by decide +kernel
theorem witness_CommandEndAnswers :
    Live (asking []) ∧ (asking []).cmd.running = some (job [] none .absent) ∧ (job [] none .absent).todo = [] := ⟨rfl, rfl, rfl⟩
theorem witness_CommandRecordsChecked_carries_1 :
    Carries (cmdOf [1, 7, 41, 1, 61, 2, 0, 3, 20, 0, 40, 1, 144, 0, 0, 1]) (.flowSet 41
        { port := some 2, group := none, urgency := some 3, weight := some 20, floor := some 40, ceiling := some 400
          burstCap := none, profile := none, tripEnable := some true }) ∧
      Carries (cmdOf [2, 7, 95, 0]) (.flowMode 95 false) ∧ Carries (cmdOf [3, 7, 95]) (.flowRead 95) ∧
      Carries (cmdOf [4, 7, 2, 1, 128, 0, 0, 0, 0, 0, 0, 0, 0, 0, 0, 240]) (.portSet 2
        { capacity := none, reserve := none, maxGrant := none, minGrant := none, lifetime := none, urgentSlots := none
          classMask := none, threshold := some 15, enable := some false }) ∧
      Carries (cmdOf [5, 7, 7, 2]) (.portRead 7 2) ∧
      Carries (cmdOf [6, 7, 23, 3, 1, 0, 255]) (.hostportSet 23 { tagged := some true, limit := some 255 }) :=
  ⟨by decide +kernel, by decide +kernel, by decide +kernel, by decide +kernel, by decide +kernel, by decide +kernel⟩
theorem witness_CommandRecordsChecked_carries_2 :
    Carries (cmdOf [7, 7, 3, 1, 2, 0]) (.profileSet 3
        { kp := some 512, kpShift := none, ki := none, kiShift := none, positiveClamp := none, negativeClamp := none
          startClamp := none, integratorClamp := none, startStep := none, startHold := none, windupStop := none }) ∧
      Carries (cmdOf [7, 7, 3, 137, 1, 2, 3, 0, 0, 0, 1]) (.profileSet 3
        { kp := none, kpShift := none, ki := none, kiShift := none, positiveClamp := none, negativeClamp := none
          startClamp := none, integratorClamp := some 66051, startStep := none, startHold := none
          windupStop := some true }) := ⟨by decide +kernel, by decide +kernel⟩
theorem witness_CommandRecordsChecked_carries_3 :
    (Carries (cmdOf [8, 7, 3]) (.epochSet .us64) ∧ Carries (cmdOf [9, 7, 0, 1, 95, 6]) (.reshape (.flowset 95 6) .freeze)) ∧
      (Carries (cmdOf [9, 7, 3, 2]) (.reshape .all .thaw) ∧ Carries (cmdOf [10, 7, 255, 0]) (.fence true false)) ∧
      (Carries (cmdOf [11]) .reserveLock ∧ Carries (cmdOf [12]) .reserveUnlock ∧ Carries (cmdOf [13, 7, 7]) (.tripClear 7)) ∧
      (Carries (cmdOf [14, 7, 7]) (.faultRead 7) ∧ Carries (cmdOf [15, 7, 7]) (.faultClear 7) ∧
        Carries (cmdOf [15, 7, 255]) .faultClearAll) ∧
      Carries (cmdOf [16, 7, 253]) (.eventMask { allCauses with fault := false }) ∧
      Carries (cmdOf [17, 7, 226]) (.eventAck { noCauses with fault := true }) := by decide +kernel
theorem witness_CommandRecordsChecked :
    (Offers (offering [0]) .a (cmdOf [0]) ∧ (cmdOf [0])[0].toNat = 0) ∧
      (Offers (offering [18]) .a (cmdOf [18]) ∧ 18 ≤ (cmdOf [18])[0].toNat) ∧
      Offers (offering [2, 0, 96]) .a (cmdOf [2, 0, 96]) ∧ outOfRange (cmdOf [2, 0, 96]) = true := by decide +kernel
/-- The last legal index, and the first one out of range, kind by kind (R129, R172). -/
theorem test_range_limits :
    outOfRange (cmdOf [2, 0, 95]) = false ∧ parseCommand (cmdOf [2, 0, 95, 1]) = .ok (.flowMode 95 true) ∧
      parseCommand (cmdOf [2, 0, 96, 1]) = .range ∧ outOfRange (cmdOf [9, 0, 0, 2, 95, 6]) = false ∧
      parseCommand (cmdOf [9, 0, 0, 2, 95, 7]) = .range ∧ outOfRange (cmdOf [15, 0, 255]) = false ∧
      parseCommand (cmdOf [15, 0, 8]) = .range ∧ parseCommand (cmdOf [18]) = .unknown := by decide +kernel

/-! ## Each command -/

/-- A FLOW_SET of F41 that names fields by a presence set; floor 40, ceiling 400 and target port T2 stand in its body. -/
def flowSetOf (hi lo : Nat) : List Nat := [1, 7, 41, hi, lo, 2, 0, 3, 20, 0, 40, 1, 144, 0, 0, 1]

/-- The fields that such a record writes. -/
def flowWriteOf (port : Option TargetPort) (floor : Option Nat) : FlowWrite :=
  { port := port, group := none, urgency := none, weight := none, floor := floor, ceiling := none, burstCap := none,
    profile := none, tripEnable := none }

/-- The same record offered with the reserve lock closed. -/
def lockedOffering (l : List Nat) : State := (offering l).withCmd { (offering l).cmd with lockClosed := true }

/-- The same record offered with room in the reserve of T0. -/
def roomyOffering (l : List Nat) : State :=
  (offering l).withCmd
    { (offering l).cmd with ports := Table.put (offering l).cmd.ports 0 { powerOnPort with reserve := 40 } }

theorem witness_FlowSetRefused :
    Offers (lockedOffering (flowSetOf 0 16)) .a (cmdOf (flowSetOf 0 16)) ∧
      parseCommand (cmdOf (flowSetOf 0 16)) = .ok (.flowSet 41 (flowWriteOf none (some 40))) ∧
      (lockedOffering (flowSetOf 0 16)).cmd.lockClosed = true ∧
      (flowAfter (flowWriteOf none (some 40)) powerOnFlowConfig).floor ≠ powerOnFlowConfig.floor := by decide +kernel
theorem witness_FlowSetRefused_reserve :
    Offers (offering (flowSetOf 0 16)) .a (cmdOf (flowSetOf 0 16)) ∧ (offering (flowSetOf 0 16)).cmd.lockClosed = false ∧
      powerOnFlowConfig.floor < (flowAfter (flowWriteOf none (some 40)) powerOnFlowConfig).floor ∧
      (Table.get (offering (flowSetOf 0 16)).cmd.ports 0).reserve <
        floorsNaming (Table.put (offering (flowSetOf 0 16)).cmd.flows 41
          (flowAfter (flowWriteOf none (some 40)) powerOnFlowConfig)) 0 := by decide +kernel
theorem witness_FlowSetExecuted :
    Offers (roomyOffering (flowSetOf 0 16)) .a (cmdOf (flowSetOf 0 16)) ∧
      parseCommand (cmdOf (flowSetOf 0 16)) = .ok (.flowSet 41 (flowWriteOf none (some 40))) ∧
      (roomyOffering (flowSetOf 0 16)).cmd.lockClosed = false ∧
      floorsNaming (Table.put (roomyOffering (flowSetOf 0 16)).cmd.flows 41
        (flowAfter (flowWriteOf none (some 40)) powerOnFlowConfig)) 0 ≤
          (Table.get (roomyOffering (flowSetOf 0 16)).cmd.ports 0).reserve := by decide +kernel
theorem witness_FlowSetExecuted_move :
    Offers (offering (flowSetOf 0 1)) .a (cmdOf (flowSetOf 0 1)) ∧
      parseCommand (cmdOf (flowSetOf 0 1)) = .ok (.flowSet 41 (flowWriteOf (some 2) none)) ∧
      (offering (flowSetOf 0 1)).cmd.lockClosed = false ∧
      (flowAfter (flowWriteOf (some 2) none) powerOnFlowConfig).floor ≤ powerOnFlowConfig.floor ∧
      (flowAfter (flowWriteOf (some 2) none) powerOnFlowConfig).floor = 0 ∧
      (flowAfter (flowWriteOf (some 2) none) powerOnFlowConfig).port ≠ powerOnFlowConfig.port := by decide +kernel

/-- A PORT_SET of T2 with a presence set: capacity 1600, reserve 400 and enable yes stand in its body. -/
def portSetOf (hi lo : Nat) : List Nat := [4, 7, 2, hi, lo, 6, 64, 1, 144, 0, 0, 0, 0, 0, 0, 1]

/-- The fields that such a record writes. -/
def portWriteOf (capacity reserve : Option Nat) (enable : Option Bool) : PortWrite :=
  { capacity := capacity, reserve := reserve, maxGrant := none, minGrant := none, lifetime := none, urgentSlots := none,
    classMask := none, threshold := none, enable := enable }

theorem witness_PortSetChecksAndWrites_locked :
    Offers (lockedOffering (portSetOf 0 2)) .a (cmdOf (portSetOf 0 2)) ∧
      parseCommand (cmdOf (portSetOf 0 2)) = .ok (.portSet 2 (portWriteOf none (some 400) none)) ∧
      (lockedOffering (portSetOf 0 2)).cmd.lockClosed = true ∧
      (portAfter (portWriteOf none (some 400) none) powerOnPort).reserve ≠ powerOnPort.reserve := by decide +kernel

/-- A PORT_SET that lowers the capacity of T2 to 16 below its reserve of 40. -/
def shrinking : List Nat := [4, 7, 2, 0, 1, 0, 16]

theorem witness_PortSetChecksAndWrites_short :
    let s := (offering shrinking).withCmd
      { (offering shrinking).cmd with ports := Table.put (offering shrinking).cmd.ports 2 { powerOnPort with reserve := 40 } }
    Offers s .a (cmdOf shrinking) ∧ parseCommand (cmdOf shrinking) = .ok (.portSet 2 (portWriteOf (some 16) none none)) ∧
      s.cmd.lockClosed = false ∧
      (portAfter (portWriteOf (some 16) none none) (Table.get s.cmd.ports 2)).capacity < (Table.get s.cmd.ports 2).reserve := by
  decide +kernel
theorem witness_PortSetChecksAndWrites_monitor :
    Offers (offering (portSetOf 1 3)) .a (cmdOf (portSetOf 1 3)) ∧
      parseCommand (cmdOf (portSetOf 1 3)) = .ok (.portSet 2 (portWriteOf (some 1600) (some 400) (some true))) ∧
      (offering (portSetOf 1 3)).cmd.lockClosed = false ∧
      ¬ (portAfter (portWriteOf (some 1600) (some 400) (some true)) powerOnPort).reserve <
        floorsNaming (offering (portSetOf 1 3)).cmd.flows 2 := by decide +kernel
theorem witness_PortSetChecksAndWrites_plain :
    Offers (offering (portSetOf 0 3)) .a (cmdOf (portSetOf 0 3)) ∧
      parseCommand (cmdOf (portSetOf 0 3)) = .ok (.portSet 2 (portWriteOf (some 1600) (some 400) none)) ∧
      ¬ (portAfter (portWriteOf (some 1600) (some 400) none) powerOnPort).reserve <
        floorsNaming (offering (portSetOf 0 3)).cmd.flows 2 := by decide +kernel

theorem witness_HostportAndProfileSet :
    (Offers (offering [6, 7, 10, 0]) .a (cmdOf [6, 7, 10, 0]) ∧
      parseCommand (cmdOf [6, 7, 10, 0]) = .ok (.hostportSet 10 { tagged := none, limit := none })) ∧
    (Offers (offering [6, 7, 10, 3, 1, 0, 255]) .a (cmdOf [6, 7, 10, 3, 1, 0, 255]) ∧
      parseCommand (cmdOf [6, 7, 10, 3, 1, 0, 255]) = .ok (.hostportSet 10 { tagged := some true, limit := some 255 })) ∧
    (Offers (offering [7, 7, 3, 0]) .a (cmdOf [7, 7, 3, 0]) ∧
      parseCommand (cmdOf [7, 7, 3, 0]) = .ok (.profileSet 3 noProfileField)) ∧
    Offers (offering [7, 7, 3, 1, 2, 0]) .a (cmdOf [7, 7, 3, 1, 2, 0]) ∧
      parseCommand (cmdOf [7, 7, 3, 1, 2, 0]) = .ok (.profileSet 3 { noProfileField with kp := some 512 }) := by
  decide +kernel

/-- A command record at the head of port A's queue is the one to take, whatever it is. -/
theorem witness_Offers (l : List Nat) : Offers (offering l) .a (cmdOf l) :=
  ⟨rfl, rfl, ⟨List.cons_ne_nil _ _, rfl, (by decide : (0 : Nat) + 0 < 16)⟩, rfl, fun _ => rfl⟩

theorem witness_CommandsSendTheirRequests_1 :
    parseCommand (cmdOf [2, 7, 41, 1]) = .ok (.flowMode 41 true) ∧
      parseCommand (cmdOf [2, 7, 41]) = .ok (.flowMode 41 false) ∧
      parseCommand (cmdOf [8, 7, 3]) = .ok (.epochSet .us64) ∧
      parseCommand (cmdOf [9, 7, 3, 0]) = .ok (.reshape .all .restart) ∧
      parseCommand (cmdOf [9, 7, 0, 1, 40, 5]) = .ok (.reshape (.flowset 40 5) .freeze) ∧
      parseCommand (cmdOf [9, 7, 0, 1, 40, 4]) = .ok (.reshape (.flowset 40 4) .freeze) ∧
      parseCommand (cmdOf [9, 7, 2, 2, 7]) = .ok (.reshape (.port 7) .thaw) ∧
      parseCommand (cmdOf [10, 7, 1, 1]) = .ok (.fence true true) := by decide +kernel
theorem witness_CommandsSendTheirRequests_2 :
    parseCommand (cmdOf [13, 7, 5]) = .ok (.tripClear 5) ∧ parseCommand (cmdOf [14, 7, 7]) = .ok (.faultRead 7) ∧
      parseCommand (cmdOf [15, 7, 4]) = .ok (.faultClear 4) ∧ parseCommand (cmdOf [15, 7, 255]) = .ok .faultClearAll ∧
      parseCommand (cmdOf [16, 7, 29]) = .ok (.eventMask { allCauses with fault := false }) ∧
      parseCommand (cmdOf [17, 7, 2]) = .ok (.eventAck { noCauses with fault := true }) := by decide +kernel
theorem witness_CommandsSendTheirRequests_3 :
    parseCommand (cmdOf [3, 7, 95]) = .ok (.flowRead 95) ∧ parseCommand (cmdOf [5, 7, 2, 0]) = .ok (.portRead 2 0) ∧
      parseCommand (cmdOf [5, 7, 2, 1]) = .ok (.portRead 2 1) ∧
      parseCommand (cmdOf [5, 7, 2, 2]) = .ok (.portRead 2 2) := by decide +kernel

/-! ## Fences and the reserve lock -/

theorem witness_FenceWithoutDrain :
    Offers (offering [10, 7, 1, 0]) .a (cmdOf [10, 7, 1, 0]) ∧
      parseCommand (cmdOf [10, 7, 1, 0]) = .ok (.fence true false) := by decide +kernel

/-- A fence capturing, with the answer of T7's arbiter on its way. -/
def capturing (tags : List GrantTag) (rest : List Request) (promised : Bool) : State :=
  ((asking (.fenceAnswer 7 :: rest)).setArb 7 { powerOnArbiter with toExecutor := [.answer tags] }).setMgmt .a
    { powerOnMgmt with promised := promised }

theorem witness_FenceCapturesDrainSet :
    Asks (asking [.fenceRead 7]) (job [.fenceRead 7] none .absent) (.fenceRead 7) [] ∧
      Asks (capturing [⟨7, 0, 1⟩] [] true) (job [.fenceAnswer 7] none .absent) (.fenceAnswer 7) [] ∧
      ((capturing [⟨7, 0, 1⟩] [] true).arb 7).toExecutor = .answer [⟨7, 0, 1⟩] :: [] ∧
      ((capturing [] [] true).arb 7).toExecutor = .answer [] :: [] ∧
      ((capturing [⟨7, 0, 1⟩] [] true).mgmt .a).promised = true ∧ ((capturing [] [] false).mgmt .a).promised = false := by
  decide +kernel

/-- A waiting fence of port A, and a retirement report of T2's arbiter on its way. -/
def draining (drain : List GrantTag) : State :=
  (State.reset.setArb 2 { powerOnArbiter with toExecutor := [.retired ⟨2, 0, 21⟩] }).setMgmt .a
    { powerOnMgmt with promised := true, fence := some { tag := 7, kind := 10, notify := true, drain := drain } }

theorem witness_RetirementReportDrainsFences :
    Live (draining [⟨2, 0, 21⟩]) ∧ ((draining [⟨2, 0, 21⟩]).arb 2).toExecutor = .retired ⟨2, 0, 21⟩ :: [] ∧
      ((draining [⟨2, 0, 21⟩, ⟨7, 0, 1⟩]).mgmt .a).fence =
        some { tag := 7, kind := 10, notify := true, drain := [⟨2, 0, 21⟩, ⟨7, 0, 1⟩] } ∧
      (∀ x ∈ ((draining [⟨7, 0, 1⟩]).mgmt .a).fence, (⟨2, 0, 21⟩ : GrantTag) ∉ x.drain) := by decide +kernel
/-- The last tag of a drain set completes the fence: DONE fills the promised slot (R159). -/
theorem test_fence_completes :
    ((after (.retirementReport 2) (draining [⟨2, 0, 21⟩])).mgmt .a).responses =
      [{ tag := 7, kind := 10, status := .done, scope := none, payload := .absent }] := by decide +kernel

theorem witness_ReserveLockCloses :
    Offers (offering [11, 7]) .a (cmdOf [11, 7]) ∧ parseCommand (cmdOf [11, 7]) = .ok .reserveLock := by decide +kernel

/-- The lock closed with a consent set. -/
def consenting (consent : PerPort Bool) : State :=
  (offering [12, 7]).withCmd { (offering [12, 7]).cmd with lockClosed := true, consent := consent }

theorem witness_ReserveUnlockNeedsConsent :
    Offers (offering [12, 7]) .a (cmdOf [12, 7]) ∧ parseCommand (cmdOf [12, 7]) = .ok .reserveUnlock ∧
      (offering [12, 7]).cmd.lockClosed = false ∧
      (Offers (consenting { a := false, b := true }) .a (cmdOf [12, 7]) ∧
        (consenting { a := false, b := true }).cmd.lockClosed = true ∧
        (consenting { a := false, b := true }).solo = false ∧ (consenting { a := false, b := true }).cmd.consent.b = true) ∧
      Offers (consenting { a := false, b := false }) .a (cmdOf [12, 7]) ∧
        (consenting { a := false, b := false }).cmd.lockClosed = true ∧
        (consenting { a := false, b := false }).cmd.consent.b = false := by decide +kernel

/-! ## Requests at the blocks -/

theorem witness_FlowMovesBetweenArbiters :
    (let s := (asking [.release 40 2]).setFlow 40 { powerOnArbiterFlow with demand := { zeroDemand with grantCount := 1 } }
     Asks s (job [.release 40 2] none .absent) (.release 40 2) [] ∧ 0 < (s.flow 40).demand.grantCount) ∧
    (Asks (asking [.release 40 2]) (job [.release 40 2] none .absent) (.release 40 2) [] ∧
      ((asking [.release 40 2]).flow 40).demand.grantCount = 0) ∧
    Asks (asking [.flowTake 40 2 powerOnArbiterFlow.view]) (job [.flowTake 40 2 powerOnArbiterFlow.view] none .absent)
      (.flowTake 40 2 powerOnArbiterFlow.view) [] := by decide +kernel

/-- A request before its block, whatever it is. -/
theorem witness_Asks (q : Request) (rest : List Request) : Asks (asking (q :: rest)) (job (q :: rest) none .absent) q rest :=
  ⟨rfl, rfl, rfl⟩

theorem witness_ArbiterTakesConfiguration (v : ArbiterView) (w : PortView) :
    Asks (asking [.flowConfig 40 v]) (job [.flowConfig 40 v] none .absent) (.flowConfig 40 v) [] ∧
      Asks (asking [.clearing 40]) (job [.clearing 40] none .absent) (.clearing 40) [] ∧
      Asks (asking [.port 2 w]) (job [.port 2 w] none .absent) (.port 2 w) [] :=
  ⟨witness_Asks .., witness_Asks .., witness_Asks ..⟩
theorem witness_LinkInterfaceTakesViews :
    Asks (asking [.targetPort 40 2]) (job [.targetPort 40 2] none .absent) (.targetPort 40 2) [] ∧
      Asks (asking [.hostport 10 powerOnHost]) (job [.hostport 10 powerOnHost] none .absent) (.hostport 10 powerOnHost) [] :=
  ⟨witness_Asks .., witness_Asks ..⟩
theorem witness_FlowModeAtRateEngine :
    (Asks (asking [.startEntry 40]) (job [.startEntry 40] none .absent) (.startEntry 40) [] ∧ Off (asking [.startEntry 40]) 40) ∧
      ¬ Off (running (asking [.startEntry 40]) 40 (atT2 60 0 600) 600 0) 40 ∧
      Asks (asking [.offEntry 40, .clearing 40]) (job [.offEntry 40, .clearing 40] none .absent) (.offEntry 40)
        (.clearing 40 :: []) := by decide +kernel
theorem witness_RateEngineTakesBounds :
    (let s := running (asking [.bound 40 (atT2 60 30 600)]) 40 (atT2 60 0 600) 29 0
     Asks s (job [.bound 40 (atT2 60 30 600)] none .absent) (.bound 40 (atT2 60 30 600)) [] ∧ ¬ Off s 40 ∧
      (s.rflow 40).ctl.rate < (atT2 60 30 600).floor ∧ (atT2 60 30 600).floor ≤ (atT2 60 30 600).ceiling ∧
      (atT2 60 30 600).floor ≤ Table.get s.rate.capacity (atT2 60 30 600).port) ∧
    (atT2 60 30 600).floor ≤
      ((running (asking [.bound 40 (atT2 60 30 600)]) 40 (atT2 60 0 600) 30 0).rflow 40).ctl.rate ∧
    Asks (asking [.capacity 2 100]) (job [.capacity 2 100] none .absent) (.capacity 2 100) [] := by decide +kernel
theorem witness_ProfileWritten :
    Asks (asking [.profile 3 { noProfileField with integratorClamp := some 0 }])
      (job [.profile 3 { noProfileField with integratorClamp := some 0 }] none .absent)
      (.profile 3 { noProfileField with integratorClamp := some 0 }) [] := witness_Asks ..
theorem witness_ReshapeReachesFlowsInService :
    (Asks (asking [.reshape (.flowset 40 1) .freeze]) (job [.reshape (.flowset 40 1) .freeze] none .absent)
      (.reshape (.flowset 40 1) .freeze) [] ∧ Off (asking [.reshape (.flowset 40 1) .freeze]) 41) ∧
      covers (asking [.reshape (.flowset 40 1) .freeze]) (.flowset 40 1) 41 = true ∧
      covers (asking [.reshape (.flowset 40 1) .freeze]) (.flowset 40 1) 42 = false ∧
      ¬ Off (running (asking [.reshape (.flowset 40 1) .freeze]) 41 (atT2 60 0 600) 600 0) 41 := by decide +kernel
theorem witness_MonitorTakesRequests :
    (Asks (asking [.monitor 5 (some true) none]) (job [.monitor 5 (some true) none] none .absent)
        (.monitor 5 (some true) none) [] ∧ ((asking [.monitor 5 (some true) none]).mon 5).linkUp = false) ∧
      ((serving (asking [.monitor 5 (some true) none]) 5).mon 5).linkUp = true ∧
      (let s := (asking [.tripClear 5]).setMon 5 { powerOnMonitor with level := 4 }
       Asks s (job [.tripClear 5] none .absent) (.tripClear 5) [] ∧ (s.mon 5).threshold ≤ (s.mon 5).level) ∧
      (let s := (asking [.tripClear 5]).setMon 5 { powerOnMonitor with level := 3 }
       (s.mon 5).level < (s.mon 5).threshold) := by decide +kernel
theorem witness_UnitTakesRequests (x : CauseSet) :
    Asks (asking [.faultRead 0]) (job [.faultRead 0] none .absent) (.faultRead 0) [] ∧
      Asks (asking [.faultClear 7]) (job [.faultClear 7] none .absent) (.faultClear 7) [] ∧
      Asks (asking [.faultClearAll]) (job [.faultClearAll] none .absent) .faultClearAll [] ∧
      Asks (asking [.eventMask x]) (job [.eventMask x] none .absent) (.eventMask x) [] ∧
      Asks (asking [.eventAck x]) (job [.eventAck x] none .absent) (.eventAck x) [] :=
  ⟨witness_Asks .., witness_Asks .., witness_Asks .., witness_Asks .., witness_Asks ..⟩
theorem witness_ReadsTakeEachPart (q : Request) (x : FlowSnapshot) (y : PortSnapshot) :
    Asks (State.reset.withRunning (some (job [q] none (.flow x)))) (job [q] none (.flow x)) q [] ∧
      Asks (State.reset.withRunning (some (job [q] none (.port y)))) (job [q] none (.port y)) q [] ∧
      (job [q] none (.flow x)).payload = .flow x ∧ (job [q] none (.port y)).payload = .port y :=
  ⟨⟨rfl, rfl, rfl⟩, ⟨rfl, rfl, rfl⟩, rfl, rfl⟩
theorem witness_LinkRecordsReadBack : checkPasses (linkOf []) = true := by decide +kernel

/-! ## Invariants: a state that meets each, and a step from it that does something -/

/-- The state after reset with one command waiting. -/
def stepping (c : Instr) : State := { State.reset with pending := [c] }

theorem witness_step : ∃ t, step (stepping .epochExpiry) = .next t ∧ t.timer.epoch = 1 := ⟨_, rfl, by decide +kernel⟩
theorem witness_StepKeepsQueues : QueuesOk (stepping .epochExpiry) ∧ PortBAbsent (stepping .epochExpiry) := by decide +kernel
theorem witness_StepKeepsBlockInvariants :
    FaultTableOk (stepping .epochExpiry) ∧ TalliesOk (stepping .epochExpiry) ∧ BudgetsOk (stepping .epochExpiry) ∧
      LinkOk (stepping .epochExpiry) :=
  ⟨by decide +kernel, by decide +kernel, by decide +kernel, by decide +kernel⟩
theorem witness_StepKeepsBlockInvariants_balances :
    BalancesOk (stepping .epochExpiry) ∧ (stepping .epochExpiry).pending.head? ≠ some (.arbiterEpochExpiry 2) ∧
      (stepping .epochExpiry).pending.head? ≠ some .powerOnReset ∧
      (stepping .epochExpiry).pending.head? ≠ some .portRequest := by decide +kernel
/-- The fourth good record, with which the link comes UP. -/
theorem witness_StepKeepsBlockInvariants_up :
    let s : State := { counting false 0 3 with pending := [.done (doneRecord 30)] }
    LinkOk s ∧ s.link.up = false ∧ ((after (.done (doneRecord 30)) s).link.up = true) := by decide +kernel
theorem witness_StepKeepsReserveArithmetic : ConfigurationOk (stepping .epochExpiry) := by decide +kernel
theorem witness_ClosedLockGuardsFloorsAndReserves :
    let s := (stepping .epochExpiry).withCmd { powerOnExecutor with lockClosed := true }
    LockOk s ∧ s.cmd.lockClosed = true ∧ s.pending.head? ≠ some .powerOnReset := by decide +kernel
theorem witness_StepKeepsViews : ViewsOk (stepping .epochExpiry) := by decide +kernel
theorem witness_StepKeepsControllerBounds :
    ConfigurationOk (stepping .epochExpiry) ∧ ViewsOk (stepping .epochExpiry) ∧ ControllersOk (stepping .epochExpiry) := by
  decide +kernel
theorem witness_StepKeepsGrantAccounts : GrantsOk (stepping .epochExpiry) := by decide +kernel

end Sys2Proof.Tests
end

section
/-! PROOFS. O21: what a matched completion does to the state, the retirement of one grant, and its frame. -/

namespace Sys2Proof.Machine

open Sys2Proof.Safety

variable (s : State)

/-! ## Frames -/

/-- A state that differs only in the arbiters and in what they hold, and there only at one port and one flow. -/
theorem changesOnly_arbiter_held {e : TargetPort} {f : Flow} {A : Table Arbiter 8} {H : Table ArbiterFlow 96}
    (hA : ∀ e' ≠ e, Table.get A e' = s.arb e') (hH : ∀ f' ≠ f, Table.get H f' = s.flow f') :
    changesOnly s ((s.withArbiters A).withHeld H) [.arbiter e, .held f] := by
  intro p hp
  cases p with
  | arbiter e' => exact hA e' fun h => hp (by simp [h])
  | held f' => exact hH f' fun h => hp (by simp [h])
  | linkState => exact ⟨rfl, rfl, rfl⟩
  | _ => rfl

/-! ## The retirement of one grant (R82, R83) -/

/-- Retiring one grant takes its cells and itself out of its flow's accounts (R12). -/
theorem Demand.less_singleton_self (d : Demand) (n : Slot) (g : Grant) :
    d.less [(n, g)] g.flow =
      { d with outstanding := d.outstanding - g.remaining, grantCount := d.grantCount - 1 } := by
  simp [Demand.less, remainingOf, countOf]

/-- Retiring one grant leaves the accounts of every other flow. -/
theorem Demand.less_singleton_ne (d : Demand) (n : Slot) {g : Grant} {f : Flow} (h : f ≠ g.flow) :
    d.less [(n, g)] f = d := by
  simp [Demand.less, remainingOf, countOf, h.symm]

/-- The arbiter after one grant has retired: only that grant's slot is written, and one report is sent. -/
theorem State.retire_singleton_arb (e : TargetPort) (n : Slot) (g : Grant) :
    (s.retire e [(n, g)]).arb e =
      { s.arb e with
        slots := Table.put (s.arb e).slots n { Table.get (s.arb e).slots n with grant := none }
        toExecutor := (s.arb e).toExecutor ++ [.retired ((s.arb e).tagAt e n)] } := by
  have slots_eq :
      (Table.tab fun m =>
        if [(n, g)].any fun x => x.1 == m then { Table.get (s.arb e).slots m with grant := none }
        else Table.get (s.arb e).slots m) =
      Table.put (s.arb e).slots n { Table.get (s.arb e).slots n with grant := none } := by
    apply Table.ext_get
    intro m
    rw [Table.get_tab, Table.get_put]
    by_cases h : m = n
    · simp [h]
    · simp [h, Ne.symm h]
  rw [State.retire_arb_self, slots_eq, List.map_singleton]

/-! ## Matched completions (R98) -/

@[simp] theorem State.popArbiter_arb_self (e : TargetPort) (rest : List ArbiterMsg) :
    (s.popArbiter e rest).arb e = { s.arb e with inbox := rest } := s.setArb_arb_self e _

/-- Another arbiter after one takes a record from its inbox. -/
theorem State.popArbiter_arb_ne {e e' : TargetPort} (rest : List ArbiterMsg) (h : e' ≠ e) :
    (s.popArbiter e rest).arb e' = s.arb e' := by
  simp [State.popArbiter, State.setArb_arb, h]

@[simp] theorem State.popArbiter_flow (e : TargetPort) (rest : List ArbiterMsg) (f : Flow) :
    (s.popArbiter e rest).flow f = s.flow f := rfl

@[simp] theorem State.credit_arb (f : Flow) (k : Nat) (e : TargetPort) : (s.credit f k).arb e = s.arb e := rfl

/-- A flow after the credit of a completion (R98). -/
theorem State.credit_flow (f f' : Flow) (k : Nat) :
    (s.credit f k).flow f' =
      if f' = f then { s.flow f with demand := (s.flow f).demand.credit k } else s.flow f' :=
  s.setDemand_flow f f' _

/-- A record matches a grant when that grant is in its slot, under its tag's generation. -/
theorem Arbiter.matching_eq_some (a : Arbiter) (t : GrantTag) (g : Grant) :
    a.matching t = some g ↔
      (Table.get a.slots t.slot).generation = t.generation ∧ (Table.get a.slots t.slot).grant = some g := by
  simp [Arbiter.matching]

theorem exec_doneMatch (e : TargetPort) : exec (.doneMatch e) s = execDoneMatch e s := rfl

/-- A matched DONE record leaves the inbox and completes its grant. -/
theorem exec_doneMatch_of_matches {s : State} {e : TargetPort} {tag : GrantTag} {k : Nat} {endMark : Bool}
    {rest : List ArbiterMsg} {g : Grant} (hc : Completes s e tag k endMark rest) (hm : Matches s e tag g) :
    exec (.doneMatch e) s = .next ((s.popArbiter e rest).complete e tag.slot g k endMark) := by
  obtain ⟨hhigh, hinbox⟩ := hc
  obtain ⟨hgrant, hgen⟩ := hm
  have hmatch : ((s.popArbiter e rest).arb e).matching tag = some g := by
    rw [State.popArbiter_arb_self, Arbiter.matching_eq_some]
    exact ⟨hgen, hgrant⟩
  rw [exec_doneMatch, execDoneMatch, State.live_of_high _ _ hhigh]
  simp only [hinbox, hmatch]

/-- A completion of all that remained is credited and retires the grant, whatever the end mark (R100). -/
theorem State.complete_remaining (e : TargetPort) (n : Slot) (g : Grant) (endMark : Bool) :
    s.complete e n g g.remaining endMark = (s.credit g.flow g.remaining).retire e [(n, g)] := by
  simp [State.complete]

/-! ## A completion equal to the remaining count (R100) -/

/-- The state after arbiter `e` has taken a completion of all that remained of grant `g` in slot `n`. -/
def State.fullyCompleted (e : TargetPort) (rest : List ArbiterMsg) (n : Slot) (g : Grant) : State :=
  ((s.popArbiter e rest).credit g.flow g.remaining).retire e [(n, g)]

/-- The row runs a full completion to the state named for it. -/
theorem exec_doneMatch_of_remaining {s : State} {e : TargetPort} {tag : GrantTag} {endMark : Bool}
    {rest : List ArbiterMsg} {g : Grant} (hc : Completes s e tag g.remaining endMark rest)
    (hm : Matches s e tag g) :
    exec (.doneMatch e) s = .next (s.fullyCompleted e rest tag.slot g) := by
  rw [exec_doneMatch_of_matches hc hm, State.complete_remaining, State.fullyCompleted]

theorem State.fullyCompleted_arb (e : TargetPort) (rest : List ArbiterMsg) (n : Slot) (g : Grant) :
    (s.fullyCompleted e rest n g).arb e = retiredAt s e n rest := by
  rw [State.fullyCompleted, State.retire_singleton_arb, State.credit_arb, State.popArbiter_arb_self]
  rfl

theorem State.fullyCompleted_flow (e : TargetPort) (rest : List ArbiterMsg) (n : Slot) (g : Grant) :
    (s.fullyCompleted e rest n g).flow g.flow =
      { s.flow g.flow with
        demand :=
          { (s.flow g.flow).demand with
            outstanding := (s.flow g.flow).demand.outstanding - g.remaining
            grantCount := (s.flow g.flow).demand.grantCount - 1
            delivered := min ((s.flow g.flow).demand.delivered + g.remaining) 65535 } } := by
  rw [State.fullyCompleted, State.retire_flow, Demand.less_singleton_self, State.credit_flow, if_pos rfl,
    State.popArbiter_flow]
  rfl

/-- A full completion changes its arbiter and its grant's flow only. -/
theorem State.fullyCompleted_changesOnly (e : TargetPort) (rest : List ArbiterMsg) (n : Slot) (g : Grant) :
    changesOnly s (s.fullyCompleted e rest n g) [.arbiter e, .held g.flow] := by
  have other_arbiter : ∀ e' ≠ e, (s.fullyCompleted e rest n g).arb e' = s.arb e' := fun e' h => by
    rw [State.fullyCompleted, State.retire_arb_ne _ _ h, State.credit_arb, State.popArbiter_arb_ne _ _ h]
  have other_flow : ∀ f' ≠ g.flow, (s.fullyCompleted e rest n g).flow f' = s.flow f' := fun f' h => by
    rw [State.fullyCompleted, State.retire_flow, Demand.less_singleton_ne _ _ h, State.credit_flow, if_neg h,
      State.popArbiter_flow]
  exact changesOnly_arbiter_held s other_arbiter other_flow

/-- Settles O21: the completion is credited and then retires the one grant it matches (R98, R100). -/
theorem fullCompletion : Obligations.FullCompletion := by
  rintro s e tag k endMark rest g hc hm rfl
  have harb := s.fullyCompleted_arb e rest tag.slot g
  refine ⟨_, exec_doneMatch_of_remaining hc hm, harb, ?freed, ?generation, ?reported,
    s.fullyCompleted_flow e rest tag.slot g, s.fullyCompleted_changesOnly e rest tag.slot g⟩
  case freed => simp [grantAt, harb, retiredAt]
  case generation => simp [harb, retiredAt]
  case reported => rw [harb, retiredAt]

end Sys2Proof.Machine
end

section
/-! PROOFS. O40 and O41: what the taking of a command that ends in the same step does to the state, and what RESERVE_LOCK and
RESERVE_UNLOCK make of the reserve lock and the consent set. -/

namespace Sys2Proof

/-! ## Values for the management ports -/

/-- Of two writes for one port the later stands. -/
theorem PerPort.put_put {α : Type} (x : PerPort α) (p : MPort) (v w : α) : (x.put p v).put p w = x.put p w := by
  cases p <;> rfl

/-- Reading a set of ports that port `p` has joined. -/
theorem PerPort.get_put_true (x : PerPort Bool) (p q : MPort) : (x.put p true).get q = (decide (q = p) || x.get q) := by
  rw [PerPort.get_put]
  split <;> simp [*]

end Sys2Proof

namespace Sys2Proof.Machine

open Sys2Proof.Safety

variable (s : State)

/-! ## The kind of a command record (R172) -/

/-- The code of a command's kind. -/
def Command.code : Command → Nat
  | .flowSet .. => 1
  | .flowMode .. => 2
  | .flowRead .. => 3
  | .portSet .. => 4
  | .portRead .. => 5
  | .hostportSet .. => 6
  | .profileSet .. => 7
  | .epochSet .. => 8
  | .reshape .. => 9
  | .fence .. => 10
  | .reserveLock => 11
  | .reserveUnlock => 12
  | .tripClear .. => 13
  | .faultRead .. => 14
  | .faultClear .. | .faultClearAll => 15
  | .eventMask .. => 16
  | .eventAck .. => 17

/-- The structure check passes on what a record's form reads as a command, and on nothing else. -/
theorem structured_eq_ok {o : Option Command} {c : Command} : structured o = .ok c ↔ o = some c := by
  cases o <;> simp [structured]

/-- A command that is read from one operand has the kind of its form. -/
theorem code_of_map {α : Type} {o : Option α} {form : α → Command} {c : Command} {k : Nat}
    (hform : ∀ x, (form x).code = k) (h : o.map form = some c) : c.code = k := by
  obtain ⟨x, -, rfl⟩ := Option.map_eq_some_iff.1 h
  exact hform x

theorem code_of_parseFlowSet {r : CommandRecord} {c : Command} (h : parseFlowSet r = some c) : c.code = 1 := by
  simp only [parseFlowSet] at h
  split at h
  · cases h
  · split at h
    · cases h; rfl
    · cases h

theorem code_of_parsePortSet {r : CommandRecord} {c : Command} (h : parsePortSet r = some c) : c.code = 4 := by
  simp only [parsePortSet] at h
  split at h
  · cases h
  · exact code_of_map (fun _ => rfl) h

theorem code_of_parseHostportSet {r : CommandRecord} {c : Command} (h : parseHostportSet r = some c) : c.code = 6 := by
  simp only [parseHostportSet] at h
  split at h
  · cases h
  · exact code_of_map (fun _ => rfl) h

theorem code_of_parseProfileSet {r : CommandRecord} {c : Command} (h : parseProfileSet r = some c) : c.code = 7 := by
  simp only [parseProfileSet] at h
  split at h
  · split at h
    · cases h
    · exact code_of_map (fun _ => rfl) h
  · exact code_of_map (fun _ => rfl) h

theorem code_of_parseReshape {r : CommandRecord} {c : Command} (h : parseReshape r = some c) : c.code = 9 := by
  simp only [parseReshape] at h
  split at h
  · cases h; rfl
  · cases h

/-- A record that is read as a command has that command's kind in its first byte. -/
theorem code_of_parseCommand {r : CommandRecord} {c : Command} (h : parseCommand r = .ok c) : c.code = r[0].toNat := by
  unfold parseCommand at h
  split at h <;> rename_i hkind <;>
    simp only [ite_eq_iff, structured_eq_ok, Checked.ok.injEq, reduceCtorEq] at h <;> rw [hkind]
  · exact code_of_parseFlowSet h
  · exact code_of_map (fun _ => rfl) h
  · exact code_of_map (fun _ => rfl) h
  · exact code_of_parsePortSet h
  · obtain ⟨e, -, hsect⟩ := Option.bind_eq_some_iff.1 h
    exact code_of_map (fun _ => rfl) hsect
  · exact code_of_parseHostportSet h
  · exact code_of_parseProfileSet h
  · exact code_of_map (fun _ => rfl) h
  · exact code_of_parseReshape h
  · subst h; rfl
  · subst h; rfl
  · subst h; rfl
  · exact code_of_map (fun _ => rfl) h
  · exact code_of_map (fun _ => rfl) h
  · obtain ⟨-, rfl⟩ | ⟨-, hone⟩ := h
    · rfl
    · exact code_of_map (fun _ => rfl) hone
  · subst h; rfl
  · subst h; rfl

/-! ## Taking a command (R124 to R126) -/

/-- The model's test for a takeable command is that of R124. -/
theorem MgmtPort.takeable_iff_ready (m : MgmtPort) : m.takeable = true ↔ Ready m := by
  simp only [MgmtPort.takeable, Bool.and_eq_true, decide_eq_true_iff, Bool.not_eq_true', List.isEmpty_eq_false_iff,
    Option.isNone_iff_eq_none, and_assoc]
  rfl

/-- The executor finds the command that is offered to it (R125). -/
theorem State.nextCommand_of_offers {s : State} {p : MPort} {r : CommandRecord} (h : Offers s p r) :
    s.nextCommand = some (p, r) := by
  obtain ⟨-, hidle, hready, hhead, hturn⟩ := h
  rw [← MgmtPort.takeable_iff_ready] at hready hturn
  have hchosen : s.chosenPort = some p := by
    cases p with
    | a =>
      cases hb : (s.mgmt .b).takeable with
      | false => simp [State.chosenPort, hidle, hready, hb]
      | true => simp [State.chosenPort, hidle, hready, hb, hturn hb]
    | b =>
      cases ha : (s.mgmt .a).takeable with
      | false => simp [State.chosenPort, hidle, hready, ha]
      | true => simp [State.chosenPort, hidle, hready, ha, hturn ha]
  simp [State.nextCommand, hchosen, hhead]

/-- A row that looks for commands of a sort takes and begins the one that is offered, if it is of that sort. -/
theorem State.live_takeIf_of_offers {s : State} {p : MPort} {r : CommandRecord} {c : Command} {sort : CommandRecord → Bool}
    (h : Offers s p r) (hsort : sort r = true) (hparse : parseCommand r = .ok c) :
    s.live (fun s => s.takeIf sort) = .next ((s.takeFrom p).begin (fresh p r) c) := by
  have hhigh : s.resetLow = false := h.1
  rw [State.live_of_high _ _ hhigh]
  simp only [State.takeIf, State.nextCommand_of_offers h, hsort, if_true, State.beginRecord, hparse]

/-- A record that is read as a command is of that command's kind. -/
theorem isKind_of_parseCommand {r : CommandRecord} {c : Command} (h : parseCommand r = .ok c) : isKind c.code r = true := by
  rw [code_of_parseCommand h, isKind, beq_self_eq_true]

/-- The row takes an offered RESERVE_LOCK and begins it. -/
theorem exec_reserveLock_of_offers {s : State} {p : MPort} {r : CommandRecord} (h : Offers s p r)
    (hparse : parseCommand r = .ok .reserveLock) :
    exec .reserveLock s = .next ((s.takeFrom p).beginReserveLock (fresh p r)) :=
  State.live_takeIf_of_offers h (isKind_of_parseCommand hparse) hparse

/-- The row takes an offered RESERVE_UNLOCK and begins it. -/
theorem exec_reserveUnlock_of_offers {s : State} {p : MPort} {r : CommandRecord} (h : Offers s p r)
    (hparse : parseCommand r = .ok .reserveUnlock) :
    exec .reserveUnlock s = .next ((s.takeFrom p).beginReserveUnlock (fresh p r)) :=
  State.live_takeIf_of_offers h (isKind_of_parseCommand hparse) hparse

/-! ## A command answered in the step that takes it (R126, R127) -/

/-- The state after port `p`'s command `r` was taken and answered in one step, with this reserve lock and consent set. -/
def State.answeredWith (p : MPort) (r : CommandRecord) (status : Status) (closed : Bool) (consent : PerPort Bool) : State :=
  s.withCmd { s.cmd with
    mgmt := s.cmd.mgmt.put p
      { s.mgmt p with
        commands := (s.mgmt p).commands.tail
        responses := (s.mgmt p).responses ++
          [{ tag := r[1], kind := r[0], status := status, scope := none, payload := .absent }]
        promised := false }
    running := none, preference := p.other, lockClosed := closed, consent := consent }

/-- The end of a command whose response slot stands promised (R127). -/
theorem State.endCommand_of_promised {s : State} {j : Running} (h : (s.mgmt j.port).promised = true) :
    s.endCommand j =
      (s.withRunning none).setMgmt j.port
        { s.mgmt j.port with responses := (s.mgmt j.port).responses ++ [j.response], promised := false } := by
  rw [State.endCommand, State.respond, State.withRunning_mgmt, if_pos h]

/-- The port whose command is taken (R125). -/
theorem State.takeFrom_mgmt_self (p : MPort) :
    (s.takeFrom p).mgmt p = { s.mgmt p with commands := (s.mgmt p).commands.tail, promised := true } :=
  PerPort.get_put_self _ _ _

/-- A command that writes the lock and the consent set and sends nothing ends with its answer in the promised slot. -/
theorem State.takeFrom_endCommand (p : MPort) (r : CommandRecord) (status : Status) (closed : Bool) (consent : PerPort Bool) :
    ((s.takeFrom p).withCmd { (s.takeFrom p).cmd with lockClosed := closed, consent := consent }).endCommand
      { fresh p r with status := status } = s.answeredWith p r status closed consent := by
  have promised : ((s.takeFrom p).mgmt p).promised = true := by rw [State.takeFrom_mgmt_self]
  rw [State.endCommand_of_promised promised]
  simp only [State.answeredWith, State.takeFrom, State.setMgmt, State.withRunning, State.withCmd,
    State.mgmt, fresh, Running.response, PerPort.put_put, PerPort.get_put_self]

theorem State.answeredWith_answeredAtOnce (p : MPort) (r : CommandRecord) (status : Status) (closed : Bool)
    (consent : PerPort Bool) : AnsweredAtOnce s (s.answeredWith p r status closed consent) p r status :=
  ⟨PerPort.get_put_self _ _ _, rfl, rfl⟩

/-- Such a command changes its port, the preference, and the lock and the consent set where it writes them anew. -/
theorem State.answeredWith_changesOnly {s : State} {p : MPort} {r : CommandRecord} {status : Status} {closed : Bool}
    {consent : PerPort Bool} {touched : List Part} (hidle : s.cmd.running = none)
    (hport : .mgmt p ∈ touched) (hpreference : .preference ∈ touched)
    (hlock : .lock ∉ touched → closed = s.cmd.lockClosed) (hconsent : .consent ∉ touched → consent = s.cmd.consent) :
    changesOnly s (s.answeredWith p r status closed consent) touched := by
  intro x hx
  cases x with
  | linkState => exact ⟨rfl, rfl, rfl⟩
  | mgmt q =>
    have hq : q ≠ p := fun h => hx (h ▸ hport)
    exact (PerPort.get_put _ _ _ _).trans (if_neg hq)
  | running => exact hidle.symm
  | preference => exact absurd hpreference hx
  | lock => exact hlock hx
  | consent => exact hconsent hx
  | _ => rfl

/-! ## The reserve lock (R149, R150) -/

/-- RESERVE_LOCK closes the lock and empties the consent set (R149). -/
theorem State.takeFrom_beginReserveLock (p : MPort) (r : CommandRecord) :
    (s.takeFrom p).beginReserveLock (fresh p r) = s.answeredWith p r .done true (PerPort.both false) :=
  s.takeFrom_endCommand p r .done true (PerPort.both false)

/-- RESERVE_UNLOCK on an open lock only answers (R150). -/
theorem State.takeFrom_beginReserveUnlock_of_open {s : State} (p : MPort) (r : CommandRecord)
    (hopen : s.cmd.lockClosed = false) :
    (s.takeFrom p).beginReserveUnlock (fresh p r) = s.answeredWith p r .done s.cmd.lockClosed s.cmd.consent := by
  have hopen' : (s.takeFrom p).cmd.lockClosed = false := hopen
  simp only [State.beginReserveUnlock, hopen', Bool.false_eq_true, if_false]
  exact s.takeFrom_endCommand p r .done _ _

/-- RESERVE_UNLOCK on a closed lock opens it if the consent set with the issuing port meets the test (R150). -/
theorem State.takeFrom_beginReserveUnlock_of_consents {s : State} (p : MPort) (r : CommandRecord)
    (hclosed : s.cmd.lockClosed = true) (hmet : s.consents (s.cmd.consent.put p true) = true) :
    (s.takeFrom p).beginReserveUnlock (fresh p r) = s.answeredWith p r .done false (PerPort.both false) := by
  have hclosed' : (s.takeFrom p).cmd.lockClosed = true := hclosed
  have hmet' : (s.takeFrom p).consents ((s.takeFrom p).cmd.consent.put (fresh p r).port true) = true := hmet
  simp only [State.beginReserveUnlock, hclosed', hmet', if_true]
  exact s.takeFrom_endCommand p r .done _ _

/-- RESERVE_UNLOCK on a closed lock otherwise holds the consent of the issuing port (R150). -/
theorem State.takeFrom_beginReserveUnlock_of_not_consents {s : State} (p : MPort) (r : CommandRecord)
    (hclosed : s.cmd.lockClosed = true) (hunmet : ¬ s.consents (s.cmd.consent.put p true) = true) :
    (s.takeFrom p).beginReserveUnlock (fresh p r) =
      s.answeredWith p r .consentHeld s.cmd.lockClosed (s.cmd.consent.put p true) := by
  have hclosed' : (s.takeFrom p).cmd.lockClosed = true := hclosed
  have hunmet' : ¬ (s.takeFrom p).consents ((s.takeFrom p).cmd.consent.put (fresh p r).port true) = true := hunmet
  simp only [State.beginReserveUnlock, hclosed', if_true, if_neg hunmet']
  rw [hclosed]
  exact s.takeFrom_endCommand p r .consentHeld true (s.cmd.consent.put p true)

/-- The test of R150 once port `p` has joined the consent set: both ports under SOLO low, port A under SOLO high. -/
theorem State.consents_put_iff (p : MPort) :
    s.consents (s.cmd.consent.put p true) = true ↔
      (s.solo = false ∧ (p = .a ∨ s.cmd.consent.a = true) ∧ (p = .b ∨ s.cmd.consent.b = true)) ∨
      (s.solo = true ∧ (p = .a ∨ s.cmd.consent.a = true)) := by
  cases p <;> cases hsolo : s.solo <;> simp [State.consents, PerPort.put, hsolo]

/-- Settles O40: the command is taken, writes the lock and the consent set, and ends in the same step. -/
theorem reserveLockCloses : Obligations.ReserveLockCloses := by
  intro s p r hoffers hparse
  have hidle : s.cmd.running = none := hoffers.2.1
  rw [exec_reserveLock_of_offers hoffers hparse, State.takeFrom_beginReserveLock]
  exact ⟨_, rfl, s.answeredWith_answeredAtOnce .., rfl, PerPort.get_both false,
    State.answeredWith_changesOnly hidle (by simp) (by simp) (by simp) (by simp)⟩

/-- Settles O41, by the lock and, where it is closed, by the test of the consent set that the issuing port has joined. -/
theorem reserveUnlockNeedsConsent : Obligations.ReserveUnlockNeedsConsent := by
  intro s p r hoffers hparse consents
  have hidle : s.cmd.running = none := hoffers.2.1
  rw [exec_reserveUnlock_of_offers hoffers hparse]
  refine ⟨fun hopen => ?_, fun hclosed hmet => ?_, fun hclosed hunmet => ?_⟩
  · rw [State.takeFrom_beginReserveUnlock_of_open p r hopen]
    exact ⟨_, rfl, s.answeredWith_answeredAtOnce .., State.answeredWith_changesOnly hidle (by simp) (by simp)
      (fun _ => rfl) (fun _ => rfl)⟩
  · rw [State.takeFrom_beginReserveUnlock_of_consents p r hclosed ((s.consents_put_iff p).2 hmet)]
    exact ⟨_, rfl, s.answeredWith_answeredAtOnce .., rfl, PerPort.get_both false,
      State.answeredWith_changesOnly hidle (by simp) (by simp) (by simp) (by simp)⟩
  · rw [State.takeFrom_beginReserveUnlock_of_not_consents p r hclosed fun h => hunmet ((s.consents_put_iff p).1 h)]
    exact ⟨_, rfl, s.answeredWith_answeredAtOnce .., hclosed, s.cmd.consent.get_put_true p,
      State.answeredWith_changesOnly hidle (by simp) (by simp) (fun _ => rfl) (by simp)⟩

end Sys2Proof.Machine
end

section
/-! PROOFS. Frames: how `changesOnly` composes, and which parts each update of the state and each shared operation writes. -/

namespace Sys2Proof.Safety

open Sys2Proof.Machine

variable {s t u : State} {A B : List Part}

/-! ## Lists of parts -/

@[simp] theorem held_mem_allHeld (f : Flow) : Part.held f ∈ allHeld := List.mem_map_of_mem (List.mem_finRange f)
@[simp] theorem rateFlow_mem_allRateFlows (f : Flow) : Part.rateFlow f ∈ allRateFlows :=
  List.mem_map_of_mem (List.mem_finRange f)
@[simp] theorem arbiter_mem_allArbiters (e : TargetPort) : Part.arbiter e ∈ allArbiters :=
  List.mem_map_of_mem (List.mem_finRange e)
@[simp] theorem monitor_mem_allMonitors (e : TargetPort) : Part.monitor e ∈ allMonitors :=
  List.mem_map_of_mem (List.mem_finRange e)
@[simp] theorem waiting_mem_allWaiting (e : TargetPort) : Part.waiting e ∈ allWaiting :=
  List.mem_map_of_mem (List.mem_finRange e)

/-! ## Composition -/

theorem Part.same_refl (p : Part) (s : State) : p.same s s := by
  cases p with
  | linkState => exact ⟨rfl, rfl, rfl⟩
  | _ => rfl

theorem Part.same_trans {p : Part} (h : p.same s t) (h' : p.same t u) : p.same s u := by
  cases p with
  | linkState => exact ⟨h'.1.trans h.1, h'.2.1.trans h.2.1, h'.2.2.trans h.2.2⟩
  | _ => exact Eq.trans h' h

theorem changesOnly.refl (s : State) (A : List Part) : changesOnly s s A := fun p _ => p.same_refl s

theorem changesOnly.mono (h : changesOnly s t A) (hAB : A ⊆ B) : changesOnly s t B := fun p hp => h p fun hA => hp (hAB hA)

theorem changesOnly.trans (h : changesOnly s t A) (h' : changesOnly t u A) : changesOnly s u A :=
  fun p hp => Part.same_trans (h p hp) (h' p hp)

/-! ## Updates of a block -/

/-- The Link Interface written anew: each field outside the list must be as it was. -/
theorem changesOnly_withLink {x : LinkInterface}
    (state : .linkState ∉ A → x.up = s.link.up ∧ x.failCount = s.link.failCount ∧ x.goodCount = s.link.goodCount := by
      exact fun _ => ⟨rfl, rfl, rfl⟩)
    (laneLock : .laneLock ∉ A → x.laneLock = s.link.laneLock := by exact fun _ => rfl)
    (hosts : .hostViews ∉ A → x.hosts = s.link.hosts := by exact fun _ => rfl)
    (flowPort : .flowPortViews ∉ A → x.flowPort = s.link.flowPort := by exact fun _ => rfl)
    (waiting : ∀ e, .waiting e ∉ A → Table.get x.waiting e = Table.get s.link.waiting e := by exact fun _ _ => rfl)
    (sent : .sent ∉ A → x.sent = s.link.sent := by exact fun _ => rfl)
    (reports : .linkReports ∉ A → x.reports = s.link.reports := by exact fun _ => rfl)
    (posts : .linkPosts ∉ A → x.posts = s.link.posts := by exact fun _ => rfl) :
    changesOnly s (s.withLink x) A := by
  intro p hp
  cases p with
  | linkState => exact state hp
  | laneLock => exact laneLock hp
  | hostViews => exact hosts hp
  | flowPortViews => exact flowPort hp
  | waiting e => exact waiting e hp
  | sent => exact sent hp
  | linkReports => exact reports hp
  | linkPosts => exact posts hp
  | _ => rfl

/-- The Rate Engine written anew. -/
theorem changesOnly_withRate {x : RateEngine}
    (flows : ∀ f, .rateFlow f ∉ A → Table.get x.flows f = s.rflow f := by exact fun _ _ => rfl)
    (profiles : .profiles ∉ A → x.profiles = s.rate.profiles := by exact fun _ => rfl)
    (capacity : .capacities ∉ A → x.capacity = s.rate.capacity := by exact fun _ => rfl)
    (queue : .tallyQueue ∉ A → x.queue = s.rate.queue := by exact fun _ => rfl)
    (reports : .rateReports ∉ A → x.reports = s.rate.reports := by exact fun _ => rfl) :
    changesOnly s (s.withRate x) A := by
  intro p hp
  cases p with
  | rateFlow f => exact flows f hp
  | profiles => exact profiles hp
  | capacities => exact capacity hp
  | tallyQueue => exact queue hp
  | rateReports => exact reports hp
  | linkState => exact ⟨rfl, rfl, rfl⟩
  | _ => rfl

/-- The Command Executor written anew. -/
theorem changesOnly_withCmd {x : Executor}
    (flows : .flowConfigs ∉ A → x.flows = s.cmd.flows := by exact fun _ => rfl)
    (ports : .portConfigs ∉ A → x.ports = s.cmd.ports := by exact fun _ => rfl)
    (hosts : .hostConfigs ∉ A → x.hosts = s.cmd.hosts := by exact fun _ => rfl)
    (mgmt : ∀ p, .mgmt p ∉ A → x.mgmt.get p = s.mgmt p := by exact fun _ _ => rfl)
    (running : .running ∉ A → x.running = s.cmd.running := by exact fun _ => rfl)
    (preference : .preference ∉ A → x.preference = s.cmd.preference := by exact fun _ => rfl)
    (lock : .lock ∉ A → x.lockClosed = s.cmd.lockClosed := by exact fun _ => rfl)
    (consent : .consent ∉ A → x.consent = s.cmd.consent := by exact fun _ => rfl)
    (posts : .executorPosts ∉ A → x.posts = s.cmd.posts := by exact fun _ => rfl) :
    changesOnly s (s.withCmd x) A := by
  intro p hp
  cases p with
  | flowConfigs => exact flows hp
  | portConfigs => exact ports hp
  | hostConfigs => exact hosts hp
  | mgmt p => exact mgmt p hp
  | running => exact running hp
  | preference => exact preference hp
  | lock => exact lock hp
  | consent => exact consent hp
  | executorPosts => exact posts hp
  | linkState => exact ⟨rfl, rfl, rfl⟩
  | _ => rfl

/-- The Fault and Event Unit written anew. -/
theorem changesOnly_withUnit {x : FaultUnit}
    (table : .faultTable ∉ A → x.table = s.unit.table := by exact fun _ => rfl)
    (overflow : .overflow ∉ A → x.overflow = s.unit.overflow := by exact fun _ => rfl)
    (pending : ∀ p, .causes p ∉ A → x.pending.get p = s.unit.pending.get p := by exact fun _ _ => rfl)
    (mask : ∀ p, .mask p ∉ A → x.mask.get p = s.unit.mask.get p := by exact fun _ _ => rfl) :
    changesOnly s (s.withUnit x) A := by
  intro p hp
  cases p with
  | faultTable => exact table hp
  | overflow => exact overflow hp
  | causes p => exact pending p hp
  | mask p => exact mask p hp
  | linkState => exact ⟨rfl, rfl, rfl⟩
  | _ => rfl

theorem changesOnly_withTimer {x : EpochTimer} (h : .timer ∈ A) : changesOnly s (s.withTimer x) A := by
  intro p hp
  cases p with
  | timer => exact absurd h hp
  | linkState => exact ⟨rfl, rfl, rfl⟩
  | _ => rfl

theorem changesOnly_withArbiters {x : Table Arbiter 8} (h : ∀ e, .arbiter e ∉ A → Table.get x e = s.arb e) :
    changesOnly s (s.withArbiters x) A := by
  intro p hp
  cases p with
  | arbiter e => exact h e hp
  | linkState => exact ⟨rfl, rfl, rfl⟩
  | _ => rfl

theorem changesOnly_withMonitors {x : Table Monitor 8} (h : ∀ e, .monitor e ∉ A → Table.get x e = s.mon e) :
    changesOnly s (s.withMonitors x) A := by
  intro p hp
  cases p with
  | monitor e => exact h e hp
  | linkState => exact ⟨rfl, rfl, rfl⟩
  | _ => rfl

theorem changesOnly_withHeld {x : Table ArbiterFlow 96} (h : ∀ f, .held f ∉ A → Table.get x f = s.flow f) :
    changesOnly s (s.withHeld x) A := by
  intro p hp
  cases p with
  | held f => exact h f hp
  | linkState => exact ⟨rfl, rfl, rfl⟩
  | _ => rfl

/-! ## Updates of one record -/

theorem changesOnly_setArb {e : TargetPort} {x : Arbiter} (h : .arbiter e ∈ A) : changesOnly s (s.setArb e x) A :=
  changesOnly_withArbiters fun e' he' => by
    rw [Table.get_put, if_neg (fun he : e' = e => he' (he ▸ h))]; rfl

theorem changesOnly_setMon {e : TargetPort} {x : Monitor} (h : .monitor e ∈ A) : changesOnly s (s.setMon e x) A :=
  changesOnly_withMonitors fun e' he' => by
    rw [Table.get_put, if_neg (fun he : e' = e => he' (he ▸ h))]; rfl

theorem changesOnly_setFlow {f : Flow} {x : ArbiterFlow} (h : .held f ∈ A) : changesOnly s (s.setFlow f x) A :=
  changesOnly_withHeld fun f' hf' => by
    rw [Table.get_put, if_neg (fun hf : f' = f => hf' (hf ▸ h))]; rfl

theorem changesOnly_setDemand {f : Flow} {x : Demand} (h : .held f ∈ A) : changesOnly s (s.setDemand f x) A :=
  changesOnly_setFlow h

theorem changesOnly_setRflow {f : Flow} {x : RateFlow} (h : .rateFlow f ∈ A) : changesOnly s (s.setRflow f x) A :=
  changesOnly_withRate (flows := fun f' hf' => by
    rw [Table.get_put, if_neg (fun hf : f' = f => hf' (hf ▸ h))]; rfl)

theorem changesOnly_setMgmt {p : MPort} {x : MgmtPort} (h : .mgmt p ∈ A) : changesOnly s (s.setMgmt p x) A :=
  changesOnly_withCmd (mgmt := fun q hq => by
    rw [PerPort.get_put, if_neg (fun hp : q = p => hq (hp ▸ h))]; rfl)

theorem changesOnly_withRunning {j : Option Running} (h : .running ∈ A) : changesOnly s (s.withRunning j) A :=
  changesOnly_withCmd (running := fun hn => absurd h hn)

/-! ## Messages to the Fault and Event Unit -/

/-- A block sends, or the unit takes, a report. -/
theorem changesOnly_setReports {src : Source} {x : List FaultReport} (h : sourcePart src ⊆ A) :
    changesOnly s (s.setReports src x) A := by
  cases src with
  | link => exact changesOnly_withLink (reports := fun hn => absurd (h (by simp [sourcePart])) hn)
  | arbiter e => exact changesOnly_setArb (h (by simp [sourcePart]))
  | monitor e => exact changesOnly_setMon (h (by simp [sourcePart]))
  | rate => exact changesOnly_withRate (reports := fun hn => absurd (h (by simp [sourcePart])) hn)
  | executor => exact .refl s A

/-- A block sends, or the unit takes, a posting. -/
theorem changesOnly_setPosts {src : Source} {x : List Posting} (h : sourcePart src ⊆ A) :
    changesOnly s (s.setPosts src x) A := by
  cases src with
  | link => exact changesOnly_withLink (posts := fun hn => absurd (h (by simp [sourcePart])) hn)
  | monitor e => exact changesOnly_setMon (h (by simp [sourcePart]))
  | executor => exact changesOnly_withCmd (posts := fun hn => absurd (h (by simp [sourcePart])) hn)
  | arbiter e => exact .refl s A
  | rate => exact .refl s A

theorem changesOnly_reportLink {r : FaultReport} (h : .linkReports ∈ A) : changesOnly s (s.report .link r) A :=
  changesOnly_withLink (reports := fun hn => absurd h hn)

theorem changesOnly_post_executor {x : Posting} (h : .executorPosts ∈ A) : changesOnly s (s.post .executor x) A :=
  changesOnly_withCmd (posts := fun hn => absurd h hn)

/-! ## Grants -/

/-- A retirement writes its arbiter and the flows of its grants. -/
theorem changesOnly_retire {e : TargetPort} {gone : List (Slot × Grant)} (he : .arbiter e ∈ A)
    (hf : ∀ f, .held f ∉ A → (s.flow f).demand.less gone f = (s.flow f).demand) : changesOnly s (s.retire e gone) A :=
  (changesOnly_setArb he).trans (changesOnly_withHeld fun f h => by rw [Table.get_tab, hf f h]; rfl)

theorem changesOnly_hand {e : TargetPort} {rs : List OutRecord} (h : .waiting e ∈ A) : changesOnly s (s.hand e rs) A := by
  unfold State.hand
  split
  · exact changesOnly_withLink (waiting := fun e' he' => by
      rw [Table.get_put, if_neg (fun he : e' = e => he' (he ▸ h))])
  · exact .refl s A

/-! ## The Command Executor -/

theorem changesOnly_respond {p : MPort} {r : Response} (h : .mgmt p ∈ A) : changesOnly s (s.respond p r) A := by
  obtain ⟨m, hm⟩ := s.respond_eq p r
  rw [hm]
  exact changesOnly_setMgmt h

theorem changesOnly_endCommand {j : Running} (hj : .running ∈ A) (hp : .mgmt j.port ∈ A) :
    changesOnly s (s.endCommand j) A :=
  (changesOnly_withRunning hj).trans (changesOnly_respond hp)

theorem changesOnly_launch {j : Running} (hj : .running ∈ A) (hp : .mgmt j.port ∈ A) : changesOnly s (s.launch j) A := by
  unfold State.launch
  split
  · exact changesOnly_endCommand hj hp
  · exact changesOnly_withRunning hj

theorem changesOnly_commit {c : Commit} (hf : .flowConfigs ∈ A) (hp : .portConfigs ∈ A) : changesOnly s (s.commit c) A := by
  cases c with
  | flow f x => exact changesOnly_withCmd (flows := fun hn => absurd hf hn)
  | port e x => exact changesOnly_withCmd (ports := fun hn => absurd hp hn)

theorem changesOnly_commitOf {j : Running} (hf : .flowConfigs ∈ A) (hp : .portConfigs ∈ A) :
    changesOnly s (s.commitOf j) A := by
  unfold State.commitOf
  split
  · exact changesOnly_commit hf hp
  · exact .refl s A

theorem changesOnly_completeFence {p : MPort} {x : Fence} (hp : .mgmt p ∈ A) (hx : .executorPosts ∈ A) :
    changesOnly s (s.completeFence p x) A := by
  unfold State.completeFence
  dsimp only
  split
  · exact ((changesOnly_setMgmt hp).trans (changesOnly_respond hp)).trans (changesOnly_post_executor hx)
  · exact (changesOnly_setMgmt hp).trans (changesOnly_respond hp)

theorem changesOnly_drainPort {tags : List GrantTag} {p : MPort} (hp : .mgmt p ∈ A) (hx : .executorPosts ∈ A) :
    changesOnly s (s.drainPort tags p) A := by
  obtain h | ⟨x, -, -, ⟨-, h⟩ | ⟨-, h⟩⟩ := s.drainPort_cases tags p <;> rw [h]
  · exact .refl s A
  · exact changesOnly_setMgmt hp
  · exact changesOnly_completeFence hp hx

theorem changesOnly_drainSets {tags : List GrantTag} (ha : .mgmt .a ∈ A) (hb : .mgmt .b ∈ A) (hj : .running ∈ A)
    (hx : .executorPosts ∈ A) : changesOnly s (s.drainSets tags) A :=
  ((changesOnly_withRunning hj).trans (changesOnly_drainPort ha hx)).trans (changesOnly_drainPort hb hx)

theorem changesOnly_takeFrom {p : MPort} (hp : .mgmt p ∈ A) (hx : .preference ∈ A) : changesOnly s (s.takeFrom p) A :=
  (changesOnly_setMgmt hp).trans (changesOnly_withCmd (preference := fun hn => absurd hx hn))

/-- What the monitors take on their own writes monitors and arbiters. -/
theorem changesOnly_takeLosses (hm : ∀ e, .monitor e ∈ A) (ha : ∀ e, .arbiter e ∈ A) : changesOnly s s.takeLosses A := by
  obtain ⟨ms, as, h, -⟩ := s.takeLosses_eq
  rw [h]
  exact (changesOnly_withMonitors fun e he => absurd (hm e) he).trans
    (changesOnly_withArbiters fun e he => absurd (ha e) he)

/-- A shutdown writes its monitor and its arbiter. -/
theorem changesOnly_shutdown {e : TargetPort} {c : Bool} (hm : .monitor e ∈ A) (ha : .arbiter e ∈ A) :
    changesOnly s (s.shutdown e c) A := by
  rw [s.shutdown_eq]
  exact (changesOnly_setMon hm).trans (changesOnly_setArb ha)

theorem changesOnly_linkDown (hs : .linkState ∈ A) (hw : ∀ e, .waiting e ∈ A) (hm : ∀ e, .monitor e ∈ A) (hp : .linkPosts ∈ A) :
    changesOnly s s.linkDown A :=
  ((changesOnly_withLink (state := fun hn => absurd hs hn) (waiting := fun e he => absurd (hw e) he)).trans
    (changesOnly_withMonitors fun e he => absurd (hm e) he)).trans
    (changesOnly_withLink (posts := fun hn => absurd hp hn))

/-! ## The Fault and Event Unit -/

theorem changesOnly_addPending {p : MPort} {c : Cause} (h : .causes p ∈ A) : changesOnly s (s.addPending p c) A := by
  unfold State.addPending
  split
  · exact changesOnly_withUnit (pending := fun q hq => by
      rw [PerPort.get_put, if_neg (fun hp : q = p => hq (hp ▸ h))])
  · exact .refl s A

theorem changesOnly_addPendingBoth {c : Cause} (ha : .causes .a ∈ A) (hb : .causes .b ∈ A) :
    changesOnly s (s.addPendingBoth c) A :=
  (changesOnly_addPending ha).trans (changesOnly_addPending hb)

theorem changesOnly_takePosting {x : Posting} (ha : .causes .a ∈ A) (hb : .causes .b ∈ A) :
    changesOnly s (s.takePosting x) A := by
  cases x with
  | toBoth c => exact changesOnly_addPendingBoth ha hb
  | toPort p c => exact changesOnly_addPending (by cases p <;> assumption)

theorem changesOnly_takeReport {r : FaultReport} (ht : .faultTable ∈ A) (ho : .overflow ∈ A) (ha : .causes .a ∈ A)
    (hb : .causes .b ∈ A) : changesOnly s (s.takeReport r) A := by
  unfold State.takeReport
  split
  · exact changesOnly_withUnit (table := fun hn => absurd ht hn)
  · split
    · exact (changesOnly_withUnit (table := fun hn => absurd ht hn)).trans (changesOnly_addPendingBoth ha hb)
    · split
      · exact .refl s A
      · exact (changesOnly_withUnit (overflow := fun hn => absurd ho hn)).trans (changesOnly_addPendingBoth ha hb)

end Sys2Proof.Safety
end

section
/-! PROOFS. What a step can do, said once: the taking of each request as one function, and the inversion of `exec` and `step`. -/

namespace Sys2Proof.Machine

open Sys2Proof.Safety

/-! ## The taking of a request (R126) -/

/-- The row of the opcode table at which a block takes a request (log entry 9). -/
def Request.row : Request → Instr
  | .release .. => .releaseRequest
  | .flowTake .. => .flowTakeRequest
  | .bound .. => .boundRequest
  | .flowConfig .. => .flowConfigRequest
  | .targetPort .. => .targetPortRequest
  | .startEntry .. => .startEntry
  | .offEntry .. => .offEntry
  | .clearing .. => .clearingRequest
  | .readController .. | .readDemand .. | .readTripped .. => .flowRead
  | .monitor .. => .monitorRequest
  | .capacity .. => .capacityRequest
  | .port .. => .portRequest
  | .readCondition .. | .readBudget .. | .readSlots .. => .portRead
  | .hostport .. => .hostportRequest
  | .profile .. => .profileRequest
  | .epochSet .. => .epochSetRequest
  | .reshape .. => .reshapeRequest
  | .fenceRead .. => .arbiterRead
  | .fenceAnswer .. => .fenceDrain
  | .tripClear .. => .tripClearRequest
  | .faultRead .. => .faultRead
  | .faultClear .. => .faultClear
  | .faultClearAll => .faultClearAll
  | .eventMask .. => .eventMask
  | .eventAck .. => .eventAck

/-- The state after the block before which a request stands has taken it; `j` is the command with the request removed. An answer
to a fence read that the arbiter has not sent yet is awaited. `exec_row_of_asks` ties it to the rows. -/
def State.serve (s : State) (j : Running) : Request → State
  | .release f _ =>
    if 0 < (s.flow f).demand.grantCount then s.withRunning (some (j.refuse .refusedBusy))
    else ((s.setFlow f { s.flow f with holder := none }).commitOf j).withRunning (some { j with commit := none })
  | .flowTake f e v => (s.setFlow f { holder := some e, view := v, demand := zeroDemand }).withRunning (some j)
  | .bound f v =>
    (s.setRflow f
      { view := v
        ctl := (s.rflow f).ctl.rebound v (Table.get s.rate.capacity v.port)
          (Table.get s.rate.profiles v.profile).integratorClamp }).withRunning (some j)
  | .flowConfig f v => (s.setFlow f ((s.flow f).reconfigure v)).withRunning (some j)
  | .targetPort f e => (s.withLink { s.link with flowPort := Table.put s.link.flowPort f e }).withRunning (some j)
  | .startEntry f => (if s.isOff f then s.setRflow f (s.rflow f).start else s).withRunning (some j)
  | .offEntry f => (s.setRflow f { s.rflow f with ctl := (s.rflow f).ctl.offEntry }).withRunning (some j)
  | .clearing f =>
    (s.setDemand f { (s.flow f).demand with balance := 0, backlog := 0, flush := false }).withRunning (some j)
  | .readController f => s.withRunning (some { j with payload := j.payload.withController (s.rflow f).ctl })
  | .readDemand f => s.withRunning (some { j with payload := j.payload.withDemand (s.flow f).demand })
  | .readTripped e => s.withRunning (some { j with payload := j.payload.withTripFlag (s.mon e).tripFlag })
  | .monitor e enable threshold =>
    if enable = some true ∧ (s.mon e).linkUp = false then s.withRunning (some (j.refuse .refusedLinkdown))
    else ((s.setMon e ((s.mon e).configure enable threshold)).commitOf j).withRunning (some { j with commit := none })
  | .capacity e c =>
    (s.withRate { s.rate with
      capacity := Table.put s.rate.capacity e c
      flows := Table.tab fun f =>
        if s.boundTo e f && !s.isOff f then
          { s.rflow f with ctl := { (s.rflow f).ctl with rate := min (s.rflow f).ctl.rate c } }
        else s.rflow f }).withRunning (some j)
  | .port e v => (s.setArb e ((s.arb e).reconfigure v)).withRunning (some j)
  | .readCondition e => s.withRunning (some { j with payload := j.payload.withCondition (s.mon e).condition })
  | .readBudget e => s.withRunning (some { j with payload := j.payload.withBudget (s.arb e).budget })
  | .readSlots e upper => s.withRunning (some { j with payload := .slots ((s.arb e).slotSummary upper) })
  | .hostport h x => (s.withLink { s.link with hosts := Table.put s.link.hosts h x }).withRunning (some j)
  | .profile i w =>
    (s.withRate { s.rate with
      profiles := Table.put s.rate.profiles i ((Table.get s.rate.profiles i).write w)
      flows := Table.tab fun f =>
        if ((Table.get s.rate.profiles i).write w).integratorClamp < (Table.get s.rate.profiles i).integratorClamp ∧
            (s.rflow f).view.profile = i then
          (s.rflow f).clampIntegrator ((Table.get s.rate.profiles i).write w).integratorClamp
        else s.rflow f }).withRunning (some j)
  | .epochSet p => (s.withTimer (s.timer.request p)).withRunning (some j)
  | .reshape x a =>
    (s.withRate { s.rate with
      flows := Table.tab fun f => if s.reshapes x f then (s.rflow f).reshape a else s.rflow f }).withRunning
        (some { j with scope := some (s.performed x) })
  | .fenceRead e =>
    (s.setArb e
      { s.arb e with
        toExecutor :=
          (s.arb e).toExecutor ++ [.answer ((s.arb e).busy.map fun x => (s.arb e).tagAt e x.1)] }).withRunning
        (some { j with todo := .fenceAnswer e :: j.todo })
  | .fenceAnswer e =>
    match (s.arb e).toExecutor with
    | .answer tags :: rest =>
      if j.todo = [] then (s.popExecutor e rest).endCapture { j with drain := j.drain ++ tags }
      else (s.popExecutor e rest).withRunning (some { j with drain := j.drain ++ tags })
    | _ => s
  | .tripClear e =>
    if (s.mon e).threshold ≤ (s.mon e).level then s.withRunning (some (j.refuse .refusedTripped))
    else (s.setMon e { s.mon e with tripFlag := false }).withRunning (some j)
  | .faultRead i =>
    s.withRunning (some { j with payload := .fault (Table.get s.unit.table i) s.unit.overflow })
  | .faultClear i => (s.withUnit { s.unit with table := Table.put s.unit.table i none }).withRunning (some j)
  | .faultClearAll =>
    (s.withUnit { s.unit with table := Table.const 8 none, overflow := false }).withRunning (some j)
  | .eventMask x => (s.withUnit { s.unit with mask := s.unit.mask.put j.port x }).withRunning (some j)
  | .eventAck x =>
    (s.withUnit
      { s.unit with
        pending := s.unit.pending.put j.port ((s.unit.pending.get j.port).without x) }).withRunning (some j)

/-- A row at which a block takes a request answers what the block makes of it. -/
theorem row_onRequest_of_asks {row : State → Result} {s t : State} {j : Running} {q : Request} {rest : List Request}
    {take : State → Running → Request → Option State} (hc : row s = s.live fun s => s.onRequest (take s))
    (h : Asks s j q rest) (ht : take s { j with todo := rest } q = some t) : row s = .next t := by
  obtain ⟨hhigh, hj, hq⟩ := h
  rw [hc, s.live_of_high _ hhigh, s.onRequest_of_some (take s) hj hq ht]

/-- The same of a command's own row. -/
theorem row_request_getD_of_asks {row : State → Result} {s t : State} {j : Running} {q : Request} {rest : List Request}
    {take : State → Running → Request → Option State} {sort : CommandRecord → Bool}
    (hc : row s = s.live fun s => (s.request (take s)).getD (s.takeIf sort)) (h : Asks s j q rest)
    (ht : take s { j with todo := rest } q = some t) : row s = .next t := by
  obtain ⟨hhigh, hj, hq⟩ := h
  rw [hc, s.live_of_high _ hhigh, s.request_of_todo (take s) hj hq, ht, Option.getD_some]

/-- While a command is in execution none is found to be taken. -/
theorem State.takeIf_of_running {s : State} {j : Running} (hj : s.cmd.running = some j) (sort : CommandRecord → Bool) :
    s.takeIf sort = s := by
  simp [State.takeIf, State.nextCommand, State.chosenPort, hj]

/-- The row of a request serves it. -/
theorem exec_row_of_asks {s : State} {j : Running} {q : Request} {rest : List Request} (h : Asks s j q rest) :
    exec q.row s = .next (s.serve { j with todo := rest } q) := by
  cases q with
  | release f e =>
    refine row_onRequest_of_asks (row := execReleaseRequest) rfl h ?_
    exact (apply_ite some _ _ _).symm
  | monitor e enable threshold =>
    refine row_onRequest_of_asks (row := execMonitorRequest) rfl h ?_
    exact (apply_ite some _ _ _).symm
  | tripClear e =>
    refine row_onRequest_of_asks (row := execTripClearRequest) rfl h ?_
    exact (apply_ite some _ _ _).symm
  | readController f => exact row_request_getD_of_asks (row := execFlowRead) (take := State.readFlowPart) rfl h rfl
  | readDemand f => exact row_request_getD_of_asks (row := execFlowRead) (take := State.readFlowPart) rfl h rfl
  | readTripped e => exact row_request_getD_of_asks (row := execFlowRead) (take := State.readFlowPart) rfl h rfl
  | readCondition e => exact row_request_getD_of_asks (row := execPortRead) (take := State.readPortPart) rfl h rfl
  | readBudget e => exact row_request_getD_of_asks (row := execPortRead) (take := State.readPortPart) rfl h rfl
  | readSlots e upper => exact row_request_getD_of_asks (row := execPortRead) (take := State.readPortPart) rfl h rfl
  | faultRead i => exact row_request_getD_of_asks (row := execFaultRead) (take := State.readFault) rfl h rfl
  | faultClear i => exact row_request_getD_of_asks (row := execFaultClear) (take := State.clearFault) rfl h rfl
  | faultClearAll => exact row_request_getD_of_asks (row := execFaultClearAll) (take := State.clearFaults) rfl h rfl
  | eventMask x => exact row_request_getD_of_asks (row := execEventMask) (take := State.writeMask) rfl h rfl
  | eventAck x => exact row_request_getD_of_asks (row := execEventAck) (take := State.acknowledge) rfl h rfl
  | fenceAnswer e =>
    obtain ⟨hhigh, hj, hq⟩ := h
    show execFenceDrain s = _
    rw [execFenceDrain, s.live_of_high _ hhigh, s.request_of_todo _ hj hq]
    have awaited : (none : Option State).getD (s.takeIf fun r => isKind 10 r && choice r[3]) = s := State.takeIf_of_running hj _
    cases hx : (s.arb e).toExecutor with
    | nil => simp only [State.takeAnswer, State.serve, hx, awaited]
    | cons m later =>
      cases m with
      | retired tag => simp only [State.takeAnswer, State.serve, hx, awaited]
      | answer tags => simp only [State.takeAnswer, State.serve, hx, Option.getD_some]
  | flowTake f e v => exact row_onRequest_of_asks (row := execFlowTakeRequest) rfl h rfl
  | bound f v => exact row_onRequest_of_asks (row := execBoundRequest) rfl h rfl
  | flowConfig f v => exact row_onRequest_of_asks (row := execFlowConfigRequest) rfl h rfl
  | targetPort f e => exact row_onRequest_of_asks (row := execTargetPortRequest) rfl h rfl
  | startEntry f => exact row_onRequest_of_asks (row := execStartEntry) rfl h rfl
  | offEntry f => exact row_onRequest_of_asks (row := execOffEntry) rfl h rfl
  | clearing f => exact row_onRequest_of_asks (row := execClearingRequest) rfl h rfl
  | capacity e c => exact row_onRequest_of_asks (row := execCapacityRequest) rfl h rfl
  | port e v => exact row_onRequest_of_asks (row := execPortRequest) rfl h rfl
  | hostport x y => exact row_onRequest_of_asks (row := execHostportRequest) rfl h rfl
  | profile i w => exact row_onRequest_of_asks (row := execProfileRequest) rfl h rfl
  | epochSet x => exact row_onRequest_of_asks (row := execEpochSetRequest) rfl h rfl
  | reshape x a => exact row_onRequest_of_asks (row := execReshapeRequest) rfl h rfl
  | fenceRead e => exact row_onRequest_of_asks (row := execArbiterRead) rfl h rfl

/-! ## What a row can do -/

/-- What a link record that passes its check does once it is handled, by its row (R88). -/
def handlerOf : Instr → Option (State → State)
  | .unknownKindRecord _ => some State.badRecord
  | .backlog r => some fun s => s.takeBacklog (backlogFields r)
  | .done r => some fun s => s.takeDone (doneFields r)
  | .tstatRoute r => some fun s => s.takeTstat (tstatFields r)
  | _ => none

/-- Whether a row may take a command off a queue: COMMAND_TAKE and the rows of the command kinds (log entry 8). -/
def takesCommands : Instr → Bool
  | .commandTake | .unknownCommand | .flowSet | .flowModeEnable | .flowModeDisable | .flowRead | .portSet | .portRead
  | .hostportSet | .profileSet | .epochSet | .reshapeRestart | .reshapeFreeze | .reshapeThaw | .fence | .fenceDrain
  | .reserveLock | .reserveUnlock | .tripClear | .faultRead | .faultClear | .faultClearAll | .eventMask | .eventAck => true
  | _ => false

/-- The steps of the part: `Moves s c t` when row `c` can lead from `s` to `t`. Each constructor is an event that the row takes;
`same` stands for a row whose event cannot occur (log entry 2). `exec_moves` ties it to `exec`. -/
inductive Moves (s : State) : Instr → State → Prop
  | same (c : Instr) : Moves s c s
  | powerOn : Moves s .powerOnReset s.powerOn
  | resetReleased (solo : Bool) (hlow : s.resetLow = true) :
    Moves s (.resetRelease solo) { s with resetLow := false, solo := solo }
  | lockGained : Moves s .laneLockGain (s.withLink { s.link with laneLock := true })
  | lockLostInReset (hlow : s.resetLow = true) : Moves s .laneLockLoss (s.withLink { s.link with laneLock := false })
  | lockLostUp (hlive : Live s) (hup : s.link.up = true) :
    Moves s .laneLockLoss (s.withLink { s.link with laneLock := false }).linkDown
  | lockLostDown (hlive : Live s) (hdown : s.link.up = false) :
    Moves s .laneLockLoss (s.withLink { s.link with laneLock := false, goodCount := 0 })
  | epochExpired (hlive : Live s) :
    Moves s .epochExpiry
      ((s.withTimer s.timer.expire).withArbiters (Table.tab fun e => { s.arb e with expiries := (s.arb e).expiries + 1 }))
  | expiryTaken (hlive : Live s) (e : TargetPort) (h : (s.arb e).expiries ≠ 0) :
    Moves s (.arbiterEpochExpiry e)
      ((((s.setArb e { s.arb e with expiries := (s.arb e).expiries - 1 }).age e).renewBudget e).sendTally e)
  | tallyArrived (hlive : Live s) (e : TargetPort) (x : Tally) (rest : List Tally) (h : (s.arb e).tallies = x :: rest) :
    Moves s (.tallyArrival e) ((s.setArb e { s.arb e with tallies := rest }).enqueueTally x)
  | tallyDiscarded (hlive : Live s) (x : Tally) (rest : List Tally) (h : s.rate.queue = x :: rest) :
    Moves s .tallyComputation (s.withRate { s.rate with queue := rest })
  | tallyComputed (hlive : Live s) (x : Tally) (rest : List Tally) (h : s.rate.queue = x :: rest) :
    Moves s .tallyComputation ((s.withRate { s.rate with queue := rest }).compute x)
  | refillDiscarded (hlive : Live s) (e : TargetPort) (x : RefillSet) (rest : List RefillSet)
    (h : (s.arb e).refills = x :: rest) : Moves s (.refillSet e) (s.setArb e { s.arb e with refills := rest })
  | refillTaken (hlive : Live s) (e : TargetPort) (x : RefillSet) (rest : List RefillSet)
    (h : (s.arb e).refills = x :: rest) :
    Moves s (.refillSet e) ((s.setArb e { s.arb e with refills := rest }).refill e x)
  | recordFailed (hlive : Live s) (hlock : s.link.laneLock = true) (r : LinkRecord) :
    Moves s (.recordCheckFailure r) s.failedRecord
  | recordPassed (hlive : Live s) (hlock : s.link.laneLock = true) {c : Instr} {handle : State → State}
    (h : handlerOf c = some handle) : Moves s c (s.passedRecord handle)
  | backlogApplied (hlive : Live s) (e : TargetPort) (f : Flow) (cells : Nat) (flush : Bool) (rest : List ArbiterMsg)
    (h : (s.arb e).inbox = .backlog f cells flush :: rest) :
    Moves s (.backlogApply e) ((s.popArbiter e rest).applyBacklog e f cells flush)
  | completed (hlive : Live s) (e : TargetPort) (tag : GrantTag) (k : Nat) (endMark : Bool) (rest : List ArbiterMsg)
    (g : Grant) (h : (s.arb e).inbox = .done tag k endMark :: rest) (hm : Matches s e tag g) :
    Moves s (.doneMatch e) ((s.popArbiter e rest).complete e tag.slot g k endMark)
  | doneLate (hlive : Live s) (e : TargetPort) (tag : GrantTag) (k : Nat) (endMark : Bool) (rest : List ArbiterMsg)
    (h : (s.arb e).inbox = .done tag k endMark :: rest) (hm : ∀ g, ¬ Matches s e tag g) :
    Moves s (.doneMatch e)
      ((s.popArbiter e rest).report (.arbiter e) { kind := .lateDone, flow := none, port := some e })
  | statusTaken (hlive : Live s) (e : TargetPort) (up : Bool) (level : Nat) (rest : List MonitorMsg)
    (h : (s.mon e).inbox = .status up level :: rest) : Moves s (.tstat e) ((s.popMonitor e rest).takeStatus e up level)
  | lossTaken (hlive : Live s) (e : TargetPort) (rest : List MonitorMsg) (h : (s.mon e).inbox = .linkLoss :: rest) :
    Moves s (.linkLossRequest e) ((s.popMonitor e rest).takeLoss e)
  | shutdownTaken (hlive : Live s) (e : TargetPort) (cancels : Bool) (rest : List Bool)
    (h : (s.arb e).shutdowns = cancels :: rest) :
    Moves s (.shutdownRequest e) ((s.setArb e { s.arb e with shutdowns := rest }).cancelAll e cancels)
  | grantIssued (hlive : Live s) (e : TargetPort) (f : Flow) (n : Slot) (hf : s.chosenFlow e = some f)
    (hn : (s.arb e).lowestFree = some n) : Moves s (.grantIssue e) (s.issue e f n (s.grantSize e f))
  | recordSent (hlive : Live s) (e : TargetPort) (r : OutRecord) (rest : List OutRecord)
    (h : Table.get s.link.waiting e = r :: rest) (hup : s.link.up = true) :
    Moves s (.linkRecordSend e)
      (s.withLink { s.link with waiting := Table.put s.link.waiting e rest, sent := some (outBytes r) })
  | retirementTaken (hlive : Live s) (e : TargetPort) (tag : GrantTag) (rest : List ExecutorMsg)
    (h : (s.arb e).toExecutor = .retired tag :: rest) :
    Moves s (.retirementReport e) ((s.popExecutor e rest).drainSets [tag])
  | faultTaken (hlive : Live s) (src : Source) (r : FaultReport) (rest : List FaultReport)
    (h : s.reportsOf src = r :: rest) : Moves s (.faultReport src) ((s.setReports src rest).takeReport r)
  | posted (hlive : Live s) (src : Source) (p : MPort) (x : Posting)
    (h : (s.postsOf src).find? (fun x => x.names p) = some x) :
    Moves s (.eventPost src p) ((s.setPosts src ((s.postsOf src).erase x)).takePosting x)
  | transacted (hlive : Live s) (p : MPort) (bytes : List Byte) (hfit : s.fitted p = true) :
    Moves s (.push p bytes) (s.transact p bytes)
  | pullSelected (hlive : Live s) (p : MPort) (hfit : s.fitted p = true) :
    Moves s (.pullSelectorByte p) (s.setMgmt p { s.mgmt p with pulling := some (s.mgmt p).selectPull })
  | pulled (hlive : Live s) (p : MPort) (clocked : Nat) (hfit : s.fitted p = true) :
    Moves s (.pull p clocked) (s.setMgmt p ((s.mgmt p).pulled clocked))
  | cleared (hlive : Live s) (p : MPort) (hfit : s.fitted p = true) : Moves s (.portClear p) (s.clearPort p)
  | commandEnded (hlive : Live s) (j : Running) (hj : s.cmd.running = some j) (hq : j.todo = []) :
    Moves s .commandEnd (s.endCommand j)
  | commandTaken (hlive : Live s) {c : Instr} (hc : takesCommands c = true) {p : MPort} {r : CommandRecord}
    (h : s.nextCommand = some (p, r)) : Moves s c ((s.takeFrom p).beginRecord p r)
  | requestTaken (j : Running) (q : Request) (rest : List Request) (h : Asks s j q rest) :
    Moves s q.row (s.serve { j with todo := rest } q)

variable {s t : State} {c : Instr}

/-- The look for a command takes one or does nothing. -/
theorem Moves.of_takeIf (hlive : Live s) (hc : takesCommands c = true) (sort : CommandRecord → Bool) :
    Moves s c (s.takeIf sort) := by
  obtain h | ⟨p, r, hn, -, h⟩ := s.takeIf_cases sort <;> rw [h]
  · exact .same c
  · exact .commandTaken hlive hc hn

/-- A live row moves as its effect does. -/
theorem Moves.of_live {f : State → State} (row : State → Result) (h : exec c s = .next t) (hexec : exec c s = row s)
    (hlook : row s = s.live f) (hf : Live s → Moves s c (f s)) : Moves s c t := by
  obtain ⟨-, rfl⟩ | ⟨hlive, rfl⟩ := (s.live_eq_next f t).1 (hlook.symm.trans (hexec.symm.trans h))
  · exact .same c
  · exact hf hlive

theorem Moves.of_take {sort : CommandRecord → Bool} (row : State → Result) (hc : takesCommands c = true)
    (h : exec c s = .next t) (hexec : exec c s = row s) (hlook : row s = s.live fun s => s.takeIf sort) : Moves s c t :=
  .of_live row h hexec hlook fun hlive => .of_takeIf hlive hc sort

/-- A row at which a request is taken serves it, if it is of the row's sort. -/
theorem Moves.of_onRequest {take : State → Running → Request → Option State} (row : State → Result)
    (h : exec c s = .next t) (hexec : exec c s = row s) (hlook : row s = s.live fun s => s.onRequest (take s))
    (hrow : ∀ j q u, take s j q = some u → q.row = c := by
      intro j q u hu; cases q <;> first | rfl | cases hu) : Moves s c t := by
  obtain ⟨-, rfl⟩ | ⟨hlive, ht⟩ := (s.live_eq_next _ t).1 (hlook.symm.trans (hexec.symm.trans h))
  · exact .same c
  · obtain hs | ⟨j, q, rest, hj, hq, hu⟩ := s.onRequest_cases (take s)
    · rw [ht, hs]; exact .same c
    · have hasks : Asks s j q rest := ⟨hlive, hj, hq⟩
      obtain rfl := hrow _ _ _ hu
      obtain rfl := Host.Outcome.next.inj ((exec_row_of_asks hasks).symm.trans h)
      exact .requestTaken j q rest hasks

/-- A command's own row serves its request, or takes a command. -/
theorem Moves.of_request_getD {take : State → Running → Request → Option State} {sort : CommandRecord → Bool}
    (row : State → Result) (htakes : takesCommands c = true) (h : exec c s = .next t) (hexec : exec c s = row s)
    (hlook : row s = s.live fun s => (s.request (take s)).getD (s.takeIf sort))
    (hrow : ∀ j q u, take s j q = some u → q.row = c := by
      intro j q u hu; cases q <;> first | rfl | cases hu) : Moves s c t := by
  obtain ⟨-, rfl⟩ | ⟨hlive, ht⟩ := (s.live_eq_next _ t).1 (hlook.symm.trans (hexec.symm.trans h))
  · exact .same c
  · cases hr : s.request (take s) with
    | none => rw [ht, hr]; exact .of_takeIf hlive htakes sort
    | some u =>
      obtain ⟨j, q, rest, hj, hq, hu⟩ := (s.request_eq_some (take s) u).1 hr
      have hasks : Asks s j q rest := ⟨hlive, hj, hq⟩
      obtain rfl := hrow _ _ _ hu
      obtain rfl := Host.Outcome.next.inj ((exec_row_of_asks hasks).symm.trans h)
      exact .requestTaken j q rest hasks

/-- A row of a link record that passes its check. -/
theorem Moves.of_arrives {is : Bool} {handle : State → State} (hc : handlerOf c = some handle)
    (row : State → Result) (h : exec c s = .next t) (hexec : exec c s = row s)
    (hlook : row s = s.arrives is fun s => s.passedRecord handle) : Moves s c t :=
  .of_live row h hexec hlook fun hlive => by
    dsimp only
    split
    · next hl =>
      have hlock : s.link.laneLock = true := by simp_all
      exact .recordPassed hlive hlock hc
    · exact .same c

theorem exec_moves (h : exec c s = .next t) : Moves s c t := by
  cases c with
  | powerOnReset => cases h; exact .powerOn
  | resetRelease solo =>
    cases h
    split
    · next hlow => exact .resetReleased solo hlow
    · exact .same _
  | laneLockGain => cases h; exact .lockGained
  | laneLockLoss =>
    cases h
    dsimp only
    split
    · next hlow => exact .lockLostInReset hlow
    · next hhigh =>
      have hlive : Live s := by simpa using hhigh
      split
      · next hup => exact .lockLostUp hlive hup
      · next hdown => exact .lockLostDown hlive (by simpa using hdown)
  | epochExpiry => exact .of_live execEpochExpiry h rfl rfl .epochExpired
  | arbiterEpochExpiry e =>
    refine .of_live (execArbiterEpochExpiry e) h rfl rfl fun hlive => ?_
    dsimp only
    split
    · exact .same _
    · next hn => exact .expiryTaken hlive e hn
  | tallyArrival e =>
    refine .of_live (execTallyArrival e) h rfl rfl fun hlive => ?_
    dsimp only
    split
    · next x rest hx => exact .tallyArrived hlive e x rest hx
    · exact .same _
  | tallyComputation =>
    refine .of_live execTallyComputation h rfl rfl fun hlive => ?_
    dsimp only
    split
    · next x rest hx =>
      split
      · exact .tallyComputed hlive x rest hx
      · exact .tallyDiscarded hlive x rest hx
    · exact .same _
  | refillSet e =>
    refine .of_live (execRefillSet e) h rfl rfl fun hlive => ?_
    dsimp only
    split
    · next x rest hx =>
      split
      · exact .refillTaken hlive e x rest hx
      · exact .refillDiscarded hlive e x rest hx
    · exact .same _
  | recordCheckFailure r =>
    refine .of_live (execRecordCheckFailure r) h rfl rfl fun hlive => ?_
    split
    · next hl => exact .recordFailed hlive (by simp_all) r
    · exact .same _
  | unknownKindRecord r => exact .of_arrives rfl (execUnknownKindRecord r) h rfl rfl
  | backlog r => exact .of_arrives rfl (execBacklog r) h rfl rfl
  | done r => exact .of_arrives rfl (execDone r) h rfl rfl
  | tstatRoute r => exact .of_arrives rfl (execTstatRoute r) h rfl rfl
  | backlogApply e =>
    refine .of_live (execBacklogApply e) h rfl rfl fun hlive => ?_
    split
    · next f cells flush rest hx => exact .backlogApplied hlive e f cells flush rest hx
    · exact .same _
  | doneMatch e =>
    refine .of_live (execDoneMatch e) h rfl rfl fun hlive => ?_
    dsimp only
    split
    · next tag k endMark rest hx =>
      split
      · next g hg =>
        rw [State.popArbiter_arb_self, Arbiter.matching_eq_some] at hg
        exact .completed hlive e tag k endMark rest g hx ⟨hg.2, hg.1⟩
      · next hg =>
        refine .doneLate hlive e tag k endMark rest hx fun g hm => ?_
        have hsome : ((s.popArbiter e rest).arb e).matching tag = some g := by
          rw [State.popArbiter_arb_self, Arbiter.matching_eq_some]; exact ⟨hm.2, hm.1⟩
        rw [hg] at hsome
        cases hsome
    · exact .same _
  | tstat e =>
    refine .of_live (execTstat e) h rfl rfl fun hlive => ?_
    split
    · next up level rest hx => exact .statusTaken hlive e up level rest hx
    · exact .same _
  | linkLossRequest e =>
    refine .of_live (execLinkLossRequest e) h rfl rfl fun hlive => ?_
    split
    · next rest hx => exact .lossTaken hlive e rest hx
    · exact .same _
  | shutdownRequest e =>
    refine .of_live (execShutdownRequest e) h rfl rfl fun hlive => ?_
    dsimp only
    split
    · next cancels rest hx => exact .shutdownTaken hlive e cancels rest hx
    · exact .same _
  | grantIssue e =>
    refine .of_live (execGrantIssue e) h rfl rfl fun hlive => ?_
    split
    · next f n hf hn => exact .grantIssued hlive e f n hf hn
    · exact .same _
  | linkRecordSend e =>
    refine .of_live (execLinkRecordSend e) h rfl rfl fun hlive => ?_
    dsimp only
    split
    · next r rest hx =>
      split
      · next hup => exact .recordSent hlive e r rest hx hup
      · exact .same _
    · exact .same _
  | retirementReport e =>
    refine .of_live (execRetirementReport e) h rfl rfl fun hlive => ?_
    split
    · next tag rest hx => exact .retirementTaken hlive e tag rest hx
    · exact .same _
  | faultReport src =>
    refine .of_live (execFaultReport src) h rfl rfl fun hlive => ?_
    split
    · next r rest hx => exact .faultTaken hlive src r rest hx
    · exact .same _
  | eventPost src p =>
    refine .of_live (execEventPost src p) h rfl rfl fun hlive => ?_
    split
    · next x hx => exact .posted hlive src p x hx
    · exact .same _
  | push p bytes =>
    refine .of_live (execPush p bytes) h rfl rfl fun hlive => ?_
    split
    · next hfit => exact .transacted hlive p bytes hfit
    · exact .same _
  | pull p clocked =>
    refine .of_live (execPull p clocked) h rfl rfl fun hlive => ?_
    split
    · next hfit => exact .pulled hlive p clocked hfit
    · exact .same _
  | pullSelectorByte p =>
    refine .of_live (execPullSelectorByte p) h rfl rfl fun hlive => ?_
    dsimp only
    split
    · next hfit => exact .pullSelected hlive p hfit
    · exact .same _
  | portClear p =>
    refine .of_live (execPortClear p) h rfl rfl fun hlive => ?_
    split
    · next hfit => exact .cleared hlive p hfit
    · exact .same _
  | commandEnd =>
    refine .of_live execCommandEnd h rfl rfl fun hlive => ?_
    split
    · next j hj =>
      split
      · next hq => exact .commandEnded hlive j hj hq
      · exact .same _
    · exact .same _
  | flowRead => exact .of_request_getD execFlowRead (take := State.readFlowPart) rfl h rfl rfl
  | portRead => exact .of_request_getD execPortRead (take := State.readPortPart) rfl h rfl rfl
  | fenceDrain => exact .of_request_getD execFenceDrain (take := State.takeAnswer) rfl h rfl rfl
  | faultRead => exact .of_request_getD execFaultRead (take := State.readFault) rfl h rfl rfl
  | faultClear => exact .of_request_getD execFaultClear (take := State.clearFault) rfl h rfl rfl
  | faultClearAll => exact .of_request_getD execFaultClearAll (take := State.clearFaults) rfl h rfl rfl
  | eventMask => exact .of_request_getD execEventMask (take := State.writeMask) rfl h rfl rfl
  | eventAck => exact .of_request_getD execEventAck (take := State.acknowledge) rfl h rfl rfl
  | commandTake => exact .of_take execCommandTake rfl h rfl rfl
  | unknownCommand => exact .of_take execUnknownCommand rfl h rfl rfl
  | flowSet => exact .of_take execFlowSet rfl h rfl rfl
  | flowModeEnable => exact .of_take execFlowModeEnable rfl h rfl rfl
  | flowModeDisable => exact .of_take execFlowModeDisable rfl h rfl rfl
  | portSet => exact .of_take execPortSet rfl h rfl rfl
  | hostportSet => exact .of_take execHostportSet rfl h rfl rfl
  | profileSet => exact .of_take execProfileSet rfl h rfl rfl
  | epochSet => exact .of_take execEpochSet rfl h rfl rfl
  | reshapeRestart => exact .of_take execReshapeRestart rfl h rfl rfl
  | reshapeFreeze => exact .of_take execReshapeFreeze rfl h rfl rfl
  | reshapeThaw => exact .of_take execReshapeThaw rfl h rfl rfl
  | fence => exact .of_take execFence rfl h rfl rfl
  | reserveLock => exact .of_take execReserveLock rfl h rfl rfl
  | reserveUnlock => exact .of_take execReserveUnlock rfl h rfl rfl
  | tripClear => exact .of_take execTripClear rfl h rfl rfl
  | arbiterRead => exact .of_onRequest execArbiterRead h rfl rfl
  | tripClearRequest => exact .of_onRequest execTripClearRequest h rfl rfl
  | releaseRequest => exact .of_onRequest execReleaseRequest h rfl rfl
  | flowTakeRequest => exact .of_onRequest execFlowTakeRequest h rfl rfl
  | boundRequest => exact .of_onRequest execBoundRequest h rfl rfl
  | flowConfigRequest => exact .of_onRequest execFlowConfigRequest h rfl rfl
  | targetPortRequest => exact .of_onRequest execTargetPortRequest h rfl rfl
  | startEntry => exact .of_onRequest execStartEntry h rfl rfl
  | offEntry => exact .of_onRequest execOffEntry h rfl rfl
  | clearingRequest => exact .of_onRequest execClearingRequest h rfl rfl
  | reshapeRequest => exact .of_onRequest execReshapeRequest h rfl rfl
  | profileRequest => exact .of_onRequest execProfileRequest h rfl rfl
  | capacityRequest => exact .of_onRequest execCapacityRequest h rfl rfl
  | portRequest => exact .of_onRequest execPortRequest h rfl rfl
  | monitorRequest => exact .of_onRequest execMonitorRequest h rfl rfl
  | epochSetRequest => exact .of_onRequest execEpochSetRequest h rfl rfl
  | hostportRequest => exact .of_onRequest execHostportRequest h rfl rfl

end Sys2Proof.Machine
end

section
/-! PROOFS. O1, O2 and O3; the parts that each request and each row can write, and the inversion of `step`. -/

namespace Sys2Proof.Safety

open Sys2Proof.Machine

variable {s t : State} {A : List Part}

/-! ## Requests -/

/-- The parts that the taking of a request can write. -/
def requestParts (j : Running) : Request → List Part
  | .release f _ => [.running, .held f, .flowConfigs, .portConfigs]
  | .flowTake f _ _ | .flowConfig f _ | .clearing f => [.running, .held f]
  | .bound f _ | .startEntry f | .offEntry f => [.running, .rateFlow f]
  | .targetPort .. => [.running, .flowPortViews]
  | .readController _ | .readDemand _ | .readTripped _ | .readCondition _ | .readBudget _ | .readSlots .. | .faultRead _ =>
    [.running]
  | .monitor e _ _ => [.running, .monitor e, .flowConfigs, .portConfigs]
  | .tripClear e => [.running, .monitor e]
  | .capacity .. => .running :: .capacities :: allRateFlows
  | .profile .. => .running :: .profiles :: allRateFlows
  | .reshape .. => .running :: allRateFlows
  | .port e _ | .fenceRead e => [.running, .arbiter e]
  | .fenceAnswer e => [.running, .arbiter e, .mgmt j.port, .executorPosts]
  | .hostport .. => [.running, .hostViews]
  | .epochSet _ => [.running, .timer]
  | .faultClear _ => [.running, .faultTable]
  | .faultClearAll => [.running, .faultTable, .overflow]
  | .eventMask _ => [.running, .mask j.port]
  | .eventAck _ => [.running, .causes j.port]

theorem changesOnly_endCapture {j : Running} (hj : .running ∈ A) (hp : .mgmt j.port ∈ A) (hx : .executorPosts ∈ A) :
    changesOnly s (s.endCapture j) A := by
  unfold State.endCapture
  dsimp only
  split
  · split
    · exact (changesOnly_withRunning hj).trans (changesOnly_completeFence hp hx)
    · exact (changesOnly_withRunning hj).trans (changesOnly_setMgmt hp)
  · exact changesOnly_withRunning hj

theorem changesOnly_serve (s : State) (j : Running) (q : Request) : changesOnly s (s.serve j q) (requestParts j q) := by
  have running : ∀ (u : State) (k : Option Running) {B : List Part}, Part.running ∈ B → changesOnly u (u.withRunning k) B :=
    fun _ _ _ h => changesOnly_withRunning h
  cases q with
  | release f e =>
    rw [State.serve]
    split
    · exact running _ _ (by simp [requestParts])
    · exact ((changesOnly_setFlow (by simp [requestParts])).trans
        (changesOnly_commitOf (by simp [requestParts]) (by simp [requestParts]))).trans
        (running _ _ (by simp [requestParts]))
  | monitor e enable threshold =>
    rw [State.serve]
    split
    · exact running _ _ (by simp [requestParts])
    · exact ((changesOnly_setMon (by simp [requestParts])).trans
        (changesOnly_commitOf (by simp [requestParts]) (by simp [requestParts]))).trans
        (running _ _ (by simp [requestParts]))
  | tripClear e =>
    rw [State.serve]
    split
    · exact running _ _ (by simp [requestParts])
    · exact (changesOnly_setMon (by simp [requestParts])).trans (running _ _ (by simp [requestParts]))
  | flowTake f e v | flowConfig f v | clearing f =>
    exact (changesOnly_setFlow (by simp [requestParts])).trans (running _ _ (by simp [requestParts]))
  | bound f v | offEntry f =>
    exact (changesOnly_setRflow (by simp [requestParts])).trans (running _ _ (by simp [requestParts]))
  | startEntry f =>
    rw [State.serve]
    split
    · exact (changesOnly_setRflow (by simp [requestParts])).trans (running _ _ (by simp [requestParts]))
    · exact running _ _ (by simp [requestParts])
  | targetPort f e =>
    exact (changesOnly_withLink (flowPort := by simp [requestParts])).trans (running _ _ (by simp [requestParts]))
  | hostport h x =>
    exact (changesOnly_withLink (hosts := by simp [requestParts])).trans (running _ _ (by simp [requestParts]))
  | readController _ | readDemand _ | readTripped _ | readCondition _ | readBudget _ | readSlots _ _ | faultRead _ =>
    exact running _ _ (by simp [requestParts])
  | capacity e c =>
    exact (changesOnly_withRate (flows := by simp [requestParts]) (capacity := by simp [requestParts])).trans
      (running _ _ (by simp [requestParts]))
  | profile i w =>
    exact (changesOnly_withRate (flows := by simp [requestParts]) (profiles := by simp [requestParts])).trans
      (running _ _ (by simp [requestParts]))
  | reshape x a =>
    exact (changesOnly_withRate (flows := by simp [requestParts])).trans (running _ _ (by simp [requestParts]))
  | port e v | fenceRead e =>
    exact (changesOnly_setArb (by simp [requestParts])).trans (running _ _ (by simp [requestParts]))
  | fenceAnswer e =>
    rw [State.serve]
    split
    · split
      · exact (changesOnly_setArb (by simp [requestParts])).trans
          (changesOnly_endCapture (by simp [requestParts]) (by simp [requestParts]) (by simp [requestParts]))
      · exact (changesOnly_setArb (by simp [requestParts])).trans (running _ _ (by simp [requestParts]))
    · exact .refl s _
  | epochSet x => exact (changesOnly_withTimer (by simp [requestParts])).trans (running _ _ (by simp [requestParts]))
  | faultClear i =>
    exact (changesOnly_withUnit (table := by simp [requestParts])).trans (running _ _ (by simp [requestParts]))
  | faultClearAll =>
    exact (changesOnly_withUnit (table := by simp [requestParts]) (overflow := by simp [requestParts])).trans
      (running _ _ (by simp [requestParts]))
  | eventMask x =>
    refine .trans (changesOnly_withUnit (mask := fun p hp => ?_)) (running _ _ (by simp [requestParts]))
    rw [PerPort.get_put, if_neg (by simpa [requestParts] using hp)]
  | eventAck x =>
    refine .trans (changesOnly_withUnit (pending := fun p hp => ?_)) (running _ _ (by simp [requestParts]))
    rw [PerPort.get_put, if_neg (by simpa [requestParts] using hp)]

/-! ## Commands -/

/-- The parts that the taking of a command of port `p` can write. -/
def takingParts (p : MPort) : List Part :=
  [.mgmt p, .running, .preference, .flowConfigs, .portConfigs, .hostConfigs, .lock, .consent, .executorPosts]

theorem changesOnly_begin (s : State) (j : Running) (c : Command) : changesOnly s (s.begin j c) (takingParts j.port) := by
  have ends : ∀ (u : State) (k : Running), k.port = j.port → changesOnly u (u.endCommand k) (takingParts j.port) :=
    fun u k hk => changesOnly_endCommand (by simp [takingParts]) (by simp [takingParts, hk])
  have launches : ∀ (u : State) (k : Running), k.port = j.port → changesOnly u (u.launch k) (takingParts j.port) :=
    fun u k hk => changesOnly_launch (by simp [takingParts]) (by simp [takingParts, hk])
  have commits : ∀ x, changesOnly s (s.commit x) (takingParts j.port) :=
    fun x => changesOnly_commit (by simp [takingParts]) (by simp [takingParts])
  cases c with
  | flowSet f w =>
    simp only [State.begin, State.beginFlowSet]
    split
    · exact ends _ _ rfl
    · split
      · exact ends _ _ rfl
      · split
        · exact launches _ _ rfl
        · exact (commits _).trans (launches _ _ rfl)
  | portSet e w =>
    simp only [State.begin, State.beginPortSet]
    split
    · exact ends _ _ rfl
    · split
      · exact ends _ _ rfl
      · split
        · exact ends _ _ rfl
        · split
          · exact launches _ _ rfl
          · exact (commits _).trans (launches _ _ rfl)
  | flowMode f enable => cases enable <;> exact launches _ _ rfl
  | portRead e sect =>
    simp only [State.begin, State.beginPortRead]
    split <;> exact launches _ _ rfl
  | hostportSet h w =>
    simp only [State.begin, State.beginHostportSet]
    split
    · exact ends _ _ rfl
    · exact (changesOnly_withCmd (hosts := by simp [takingParts])).trans (launches _ _ rfl)
  | profileSet i w =>
    simp only [State.begin, State.beginProfileSet]
    split
    · exact ends _ _ rfl
    · exact launches _ _ rfl
  | fence notify drain =>
    cases drain with
    | true => exact launches _ _ rfl
    | false =>
      simp only [State.begin, State.beginFence]
      split
      · exact (ends _ _ rfl).trans (changesOnly_post_executor (by simp [takingParts]))
      · exact ends _ _ rfl
  | reserveLock =>
    exact (changesOnly_withCmd (lock := by simp [takingParts]) (consent := by simp [takingParts])).trans (ends _ _ rfl)
  | reserveUnlock =>
    simp only [State.begin, State.beginReserveUnlock]
    split
    · split
      · exact (changesOnly_withCmd (lock := by simp [takingParts]) (consent := by simp [takingParts])).trans (ends _ _ rfl)
      · exact (changesOnly_withCmd (consent := by simp [takingParts])).trans (ends _ _ rfl)
    · exact ends _ _ rfl
  | _ => exact launches _ _ rfl

theorem changesOnly_take (s : State) (p : MPort) (r : CommandRecord) :
    changesOnly s ((s.takeFrom p).beginRecord p r) (takingParts p) := by
  refine .trans (changesOnly_takeFrom (p := p) (by simp [takingParts]) (by simp [takingParts])) ?_
  unfold State.beginRecord
  split
  · exact changesOnly_endCommand (by simp [takingParts]) (by simp [takingParts, fresh])
  · exact changesOnly_endCommand (by simp [takingParts]) (by simp [takingParts, fresh])
  · exact changesOnly_begin _ (fresh p r) _

/-! ## Rows -/

/-- The parts of the executor that the taking of a command can write. -/
def executorParts : List Part :=
  [.mgmt .a, .mgmt .b, .running, .preference, .flowConfigs, .portConfigs, .hostConfigs, .lock, .consent, .executorPosts]

theorem takingParts_subset (p : MPort) : takingParts p ⊆ executorParts := by
  cases p <;> simp [takingParts, executorParts]

/-- The parts that a row can write, whatever it finds; a power-on reset writes them all and is not listed. -/
def reach : Instr → List Part
  | .powerOnReset => []
  | .resetRelease _ => [.resetLine, .solo]
  | .epochExpiry => .timer :: allArbiters
  | .arbiterEpochExpiry e =>
    .arbiter e :: .waiting e :: .mgmt .a :: .mgmt .b :: .running :: .executorPosts :: allHeld
  | .tallyArrival e => [.arbiter e, .tallyQueue, .rateReports]
  | .tallyComputation => .tallyQueue :: (allArbiters ++ allRateFlows)
  | .refillSet e | .backlogApply e | .doneMatch e => .arbiter e :: allHeld
  | .laneLockGain => [.laneLock]
  | .laneLockLoss => [.laneLock, .linkState, .linkPosts] ++ allWaiting ++ allMonitors
  | .recordCheckFailure _ => [.linkState, .linkReports, .linkPosts] ++ allWaiting ++ allMonitors
  | .unknownKindRecord _ | .backlog _ | .done _ | .tstatRoute _ =>
    [.linkState, .linkReports] ++ allArbiters ++ allMonitors
  | .tstat e | .linkLossRequest e => [.monitor e, .arbiter e]
  | .shutdownRequest e | .grantIssue e => .arbiter e :: .waiting e :: allHeld
  | .linkRecordSend e => [.waiting e, .sent]
  | .retirementReport e => [.arbiter e, .mgmt .a, .mgmt .b, .executorPosts, .running]
  | .faultReport src => sourcePart src ++ [.faultTable, .overflow, .causes .a, .causes .b]
  | .eventPost src _ => sourcePart src ++ [.causes .a, .causes .b]
  | .push p _ | .pull p _ | .pullSelectorByte p => [.mgmt p]
  | .portClear p => [.mgmt p, .consent, .executorPosts, .causes p, .mask p]
  | .commandEnd => [.mgmt .a, .mgmt .b, .running]
  | .commandTake | .unknownCommand | .flowSet | .flowModeEnable | .flowModeDisable | .flowRead | .portSet | .portRead
  | .hostportSet | .profileSet | .epochSet | .reshapeRestart | .reshapeFreeze | .reshapeThaw | .fence | .reserveLock
  | .reserveUnlock | .tripClear | .faultRead => executorParts
  | .fenceDrain => executorParts ++ allArbiters
  | .faultClear => executorParts ++ [.faultTable]
  | .faultClearAll => executorParts ++ [.faultTable, .overflow]
  | .eventMask => executorParts ++ [.mask .a, .mask .b]
  | .eventAck => executorParts ++ [.causes .a, .causes .b]
  | .releaseRequest => [.running, .flowConfigs, .portConfigs] ++ allHeld
  | .flowTakeRequest | .flowConfigRequest | .clearingRequest => .running :: allHeld
  | .boundRequest | .startEntry | .offEntry | .reshapeRequest => .running :: allRateFlows
  | .targetPortRequest => [.running, .flowPortViews]
  | .hostportRequest => [.running, .hostViews]
  | .profileRequest => .running :: .profiles :: allRateFlows
  | .capacityRequest => .running :: .capacities :: allRateFlows
  | .portRequest | .arbiterRead => .running :: allArbiters
  | .monitorRequest => [.running, .flowConfigs, .portConfigs] ++ allMonitors
  | .tripClearRequest => .running :: allMonitors
  | .epochSetRequest => [.running, .timer]

theorem requestParts_subset (j : Running) (q : Request) : requestParts j q ⊆ reach q.row := by
  have port : ∀ (form : MPort → Part), form j.port ∈ [form .a, form .b] := by intro form; cases j.port <;> simp
  cases q with
  | fenceAnswer e =>
    have hp := port Part.mgmt
    simp only [List.mem_cons, List.not_mem_nil, or_false] at hp
    intro x hx
    simp only [requestParts, List.mem_cons, List.not_mem_nil, or_false] at hx
    obtain rfl | rfl | rfl | rfl := hx
    · simp [reach, Request.row, executorParts]
    · simp [reach, Request.row]
    · simp only [reach, Request.row, executorParts, List.mem_append, List.mem_cons]; tauto
    · simp [reach, Request.row, executorParts]
  | eventMask x => simpa [requestParts, reach, Request.row, executorParts] using port Part.mask
  | eventAck x => simpa [requestParts, reach, Request.row, executorParts] using port Part.causes
  | _ => simp [requestParts, reach, Request.row, executorParts]

theorem executorParts_subset {c : Instr} (h : takesCommands c = true) : executorParts ⊆ reach c := by
  cases c <;> simp [takesCommands] at h <;> simp [reach]

/-- The Link Interface handles a record: it reports, or passes it to one arbiter or monitor (R88). -/
theorem changesOnly_handler {c : Instr} {handle : State → State} (h : handlerOf c = some handle) (u : State) :
    changesOnly u (handle u) ([.linkReports] ++ allArbiters ++ allMonitors) := by
  have reports : ∀ (v : State) (r : FaultReport),
      changesOnly v (v.report .link r) ([.linkReports] ++ allArbiters ++ allMonitors) :=
    fun v r => changesOnly_reportLink (by simp)
  have passes : ∀ (v : State) (e : TargetPort) (m : ArbiterMsg),
      changesOnly v (v.passToArbiter e m) ([.linkReports] ++ allArbiters ++ allMonitors) :=
    fun v e m => changesOnly_setArb (by simp)
  cases c <;> simp only [handlerOf, Option.some.injEq, reduceCtorEq] at h <;> subst h
  case unknownKindRecord r => exact reports _ _
  case done r =>
    dsimp only [State.takeDone]
    split
    · exact reports _ _
    · exact passes _ _ _
  case tstatRoute r => exact changesOnly_setMon (by simp)
  case backlog r =>
    dsimp only [State.takeBacklog, State.passBacklog]
    repeat' split
    all_goals first
      | exact reports _ _
      | exact passes _ _ _
      | exact (reports _ _).trans (passes _ _ _)

theorem changesOnly_takeStatus {e : TargetPort} {up : Bool} {level : Nat} (hm : .monitor e ∈ A) (ha : .arbiter e ∈ A) :
    changesOnly s (s.takeStatus e up level) A := by
  obtain ⟨x, a, -, h⟩ := s.takeMessage_eq e (.status up level)
  rw [show s.takeStatus e up level = _ from h]
  exact (changesOnly_setMon hm).trans (changesOnly_setArb ha)

theorem changesOnly_takeLoss {e : TargetPort} (hm : .monitor e ∈ A) (ha : .arbiter e ∈ A) :
    changesOnly s (s.takeLoss e) A := by
  obtain ⟨x, a, -, h⟩ := s.takeMessage_eq e .linkLoss
  rw [show s.takeLoss e = _ from h]
  exact (changesOnly_setMon hm).trans (changesOnly_setArb ha)

/-- A completion writes its arbiter and its flow (R98). -/
theorem changesOnly_complete {e : TargetPort} {n : Slot} {g : Grant} {k : Nat} {endMark : Bool} (he : .arbiter e ∈ A)
    (hf : .held g.flow ∈ A) : changesOnly s (s.complete e n g k endMark) A := by
  have credit : changesOnly s (s.credit g.flow k) A := changesOnly_setDemand hf
  have retire : changesOnly (s.credit g.flow k) ((s.credit g.flow k).retire e [(n, g)]) A :=
    changesOnly_retire he fun f hn => Demand.less_singleton_ne _ _ fun h => hn (h ▸ hf)
  unfold State.complete
  dsimp only
  split
  · exact (credit.trans retire).trans (changesOnly_setReports (by simpa [sourcePart] using he))
  · split
    · exact credit.trans retire
    · split
      · refine (credit.trans retire).trans ?_
        unfold State.refund
        split
        · exact .refl _ A
        · exact changesOnly_setDemand hf
      · exact credit.trans ((changesOnly_setArb he).trans (changesOnly_setDemand hf))

/-- An expiry at an arbiter writes the arbiter, its waiting records, its flows and the drain sets (R27). -/
theorem changesOnly_age {e : TargetPort} (he : .arbiter e ∈ A) (hw : .waiting e ∈ A) (hf : ∀ f, .held f ∈ A)
    (ha : .mgmt .a ∈ A) (hb : .mgmt .b ∈ A) (hj : .running ∈ A) (hx : .executorPosts ∈ A) : changesOnly s (s.age e) A := by
  have retired : ∀ (u : State) (gone : List (Slot × Grant)), changesOnly u (u.retire e gone) A :=
    fun u gone => changesOnly_retire he fun f hn => absurd (hf f) hn
  have reported : ∀ (u : State) (x : List FaultReport), changesOnly u (u.setReports (.arbiter e) x) A :=
    fun u x => changesOnly_setArb he
  exact ((((changesOnly_setArb he).trans (retired _ _)).trans (changesOnly_hand hw)).trans (reported _ _)).trans
    (changesOnly_drainSets ha hb hj hx)

theorem changesOnly_cancelAll {e : TargetPort} {cancels : Bool} (he : .arbiter e ∈ A) (hw : .waiting e ∈ A)
    (hf : ∀ f, .held f ∈ A) : changesOnly s (s.cancelAll e cancels) A :=
  ((changesOnly_retire he fun f hn => absurd (hf f) hn).trans (changesOnly_hand hw)).trans
    (changesOnly_withHeld fun f hn => absurd (hf f) hn)

theorem changesOnly_issue {e : TargetPort} {f : Flow} {n : Slot} {g : Nat} (he : .arbiter e ∈ A) (hw : .waiting e ∈ A)
    (hf : .held f ∈ A) : changesOnly s (s.issue e f n g) A :=
  ((changesOnly_setArb he).trans (changesOnly_setDemand hf)).trans (changesOnly_hand hw)

theorem changesOnly_clearPort {p : MPort} (hm : .mgmt p ∈ A) (hc : .consent ∈ A) (hx : .executorPosts ∈ A)
    (hp : .causes p ∈ A) (hk : .mask p ∈ A) : changesOnly s (s.clearPort p) A := by
  refine (((changesOnly_setMgmt hm).trans (changesOnly_setPosts (by simpa [sourcePart] using hx))).trans
    (changesOnly_withCmd (consent := fun hn => absurd hc hn))).trans
    (changesOnly_withUnit (pending := fun q hq => ?_) (mask := fun q hq => ?_))
  · rw [PerPort.get_put, if_neg fun h : q = p => hq (h ▸ hp)]
  · rw [PerPort.get_put, if_neg fun h : q = p => hq (h ▸ hk)]

theorem changesOnly_transact {p : MPort} {bytes : List Byte} (h : .mgmt p ∈ A) : changesOnly s (s.transact p bytes) A := by
  unfold State.transact
  split
  · exact changesOnly_setMgmt h
  · exact changesOnly_setMgmt h
  · exact .refl s A
  · exact changesOnly_setMgmt h

theorem changesOnly_failedRecord (hs : .linkState ∈ A) (hr : .linkReports ∈ A) (hw : ∀ e, .waiting e ∈ A)
    (hm : ∀ e, .monitor e ∈ A) (hp : .linkPosts ∈ A) : changesOnly s s.failedRecord A := by
  unfold State.failedRecord
  dsimp only
  split
  · split
    · exact (changesOnly_reportLink hr).trans (changesOnly_linkDown hs hw hm hp)
    · exact (changesOnly_reportLink hr).trans (changesOnly_withLink (state := fun hn => absurd hs hn))
  · exact changesOnly_withLink (state := fun hn => absurd hs hn)

theorem changesOnly_enqueueTally {x : Tally} (hq : .tallyQueue ∈ A) (hr : .rateReports ∈ A) :
    changesOnly s (s.enqueueTally x) A := by
  unfold State.enqueueTally
  split
  · exact (changesOnly_withRate (queue := fun hn => absurd hq hn)).trans
      (changesOnly_withRate (reports := fun hn => absurd hr hn))
  · exact changesOnly_withRate (queue := fun hn => absurd hq hn)

theorem changesOnly_applyBacklog {e : TargetPort} {f : Flow} {cells : Nat} {flush : Bool} (he : .arbiter e ∈ A)
    (hf : .held f ∈ A) : changesOnly s (s.applyBacklog e f cells flush) A := by
  unfold State.applyBacklog
  split
  · exact changesOnly_setArb he
  · split
    · exact changesOnly_setDemand hf
    · exact changesOnly_setArb he

/-- A record that passes its check is handled in the state with the link UP, once the monitors have taken their link-loss
requests on a link that comes UP, or it is counted (R170). -/
theorem changesOnly_passedRecord {handle : State → State} (hs : .linkState ∈ A) (ha : ∀ e, .arbiter e ∈ A)
    (hm : ∀ e, .monitor e ∈ A) (hh : ∀ u, changesOnly u (handle u) A) : changesOnly s (s.passedRecord handle) A := by
  have up : ∀ u : State, changesOnly u (u.withLink { u.link with up := true, failCount := 0, goodCount := 0 }) A :=
    fun u => changesOnly_withLink (state := fun hn => absurd hs hn)
  obtain ⟨-, h⟩ | ⟨-, -, h⟩ | ⟨-, -, h⟩ := s.passedRecord_cases handle <;> rw [h]
  · exact (changesOnly_withLink (state := fun hn => absurd hs hn)).trans (hh _)
  · exact ((changesOnly_takeLosses hm ha).trans (up _)).trans (hh _)
  · exact changesOnly_withLink (state := fun hn => absurd hs hn)

/-- What a row does stays within its reach. -/
theorem moves_changesOnly {c : Instr} (h : Moves s c t) (hc : c ≠ .powerOnReset) : changesOnly s t (reach c) := by
  cases h with
  | same => exact .refl s _
  | powerOn => exact absurd rfl hc
  | resetReleased solo =>
    intro p hp
    cases p with
    | linkState => exact ⟨rfl, rfl, rfl⟩
    | resetLine => simp [reach] at hp
    | solo => simp [reach] at hp
    | _ => rfl
  | lockGained => exact changesOnly_withLink (laneLock := by simp [reach])
  | lockLostInReset => exact changesOnly_withLink (laneLock := by simp [reach])
  | lockLostUp =>
    exact (changesOnly_withLink (laneLock := by simp [reach])).trans
      (changesOnly_linkDown (by simp [reach]) (by simp [reach]) (by simp [reach]) (by simp [reach]))
  | lockLostDown => exact changesOnly_withLink (state := by simp [reach]) (laneLock := by simp [reach])
  | epochExpired => exact (changesOnly_withTimer (by simp [reach])).trans (changesOnly_withArbiters (by simp [reach]))
  | expiryTaken _ e =>
    exact ((changesOnly_setArb (by simp [reach])).trans
      ((changesOnly_age (by simp [reach]) (by simp [reach]) (by simp [reach]) (by simp [reach]) (by simp [reach])
        (by simp [reach]) (by simp [reach])).trans (changesOnly_setArb (by simp [reach])))).trans
      ((changesOnly_setArb (by simp [reach])).trans (changesOnly_withHeld (by simp [reach])))
  | tallyArrived _ e x rest =>
    exact (changesOnly_setArb (by simp [reach])).trans (changesOnly_enqueueTally (by simp [reach]) (by simp [reach]))
  | tallyDiscarded => exact changesOnly_withRate (queue := by simp [reach])
  | tallyComputed _ x rest =>
    exact (changesOnly_withRate (queue := by simp [reach])).trans
      ((changesOnly_withRate (flows := by simp [reach])).trans (changesOnly_setArb (by simp [reach])))
  | refillDiscarded => exact changesOnly_setArb (by simp [reach])
  | refillTaken =>
    exact (changesOnly_setArb (by simp [reach])).trans (changesOnly_withHeld (by simp [reach]))
  | recordFailed =>
    exact changesOnly_failedRecord (by simp [reach]) (by simp [reach]) (by simp [reach]) (by simp [reach]) (by simp [reach])
  | recordPassed _ _ hh =>
    have hreach : [Part.linkState, .linkReports] ++ allArbiters ++ allMonitors ⊆ reach c := by
      cases c <;> simp [handlerOf] at hh <;> simp [reach]
    exact (changesOnly_passedRecord (by simp) (by simp) (by simp) fun u => (changesOnly_handler hh u).mono (by simp)).mono hreach
  | backlogApplied _ e f =>
    exact (changesOnly_setArb (by simp [reach])).trans (changesOnly_applyBacklog (by simp [reach]) (by simp [reach]))
  | completed => exact (changesOnly_setArb (by simp [reach])).trans (changesOnly_complete (by simp [reach]) (by simp [reach]))
  | doneLate =>
    exact (changesOnly_setArb (by simp [reach])).trans (changesOnly_setReports (by simp [reach, sourcePart]))
  | statusTaken => exact (changesOnly_setMon (by simp [reach])).trans (changesOnly_takeStatus (by simp [reach]) (by simp [reach]))
  | lossTaken => exact (changesOnly_setMon (by simp [reach])).trans (changesOnly_takeLoss (by simp [reach]) (by simp [reach]))
  | shutdownTaken =>
    exact (changesOnly_setArb (by simp [reach])).trans
      (changesOnly_cancelAll (by simp [reach]) (by simp [reach]) (by simp [reach]))
  | grantIssued => exact changesOnly_issue (by simp [reach]) (by simp [reach]) (by simp [reach])
  | recordSent _ e =>
    refine changesOnly_withLink (waiting := fun e' he' => ?_) (sent := by simp [reach])
    rw [Table.get_put, if_neg]
    simpa [reach] using he'
  | retirementTaken =>
    exact (changesOnly_setArb (by simp [reach])).trans
      (changesOnly_drainSets (by simp [reach]) (by simp [reach]) (by simp [reach]) (by simp [reach]))
  | faultTaken =>
    exact (changesOnly_setReports (by simp [reach])).trans
      (changesOnly_takeReport (by simp [reach]) (by simp [reach]) (by simp [reach]) (by simp [reach]))
  | posted =>
    exact (changesOnly_setPosts (by simp [reach])).trans (changesOnly_takePosting (by simp [reach]) (by simp [reach]))
  | transacted => exact changesOnly_transact (by simp [reach])
  | pullSelected | pulled => exact changesOnly_setMgmt (by simp [reach])
  | cleared =>
    exact changesOnly_clearPort (by simp [reach]) (by simp [reach]) (by simp [reach]) (by simp [reach]) (by simp [reach])
  | commandEnded _ j =>
    exact changesOnly_endCommand (by simp [reach]) (by cases j.port <;> simp [reach])
  | commandTaken _ htakes =>
    exact (changesOnly_take s _ _).mono fun x hx => executorParts_subset htakes (takingParts_subset _ hx)
  | requestTaken j q rest => exact (changesOnly_serve s _ q).mono (requestParts_subset _ q)

end Sys2Proof.Safety

namespace Sys2Proof.Machine

open Sys2Proof.Safety

/-! ## The block as a whole -/

/-- No row faults or is refused (log entry 18). -/
theorem exec_next (c : Instr) (s : State) : ∃ t, exec c s = .next t := by
  cases c <;> exact ⟨_, rfl⟩

/-- A step idles on an empty queue, and otherwise moves as its command does on the state with the queue's rest. -/
theorem step_cases {s t : State} (h : step s = .next t) :
    (s.pending = [] ∧ t = s) ∨ ∃ c rest, s.pending = c :: rest ∧ Moves { s with pending := rest } c t := by
  unfold step at h
  split at h
  · next c rest hp => exact .inr ⟨c, rest, hp, exec_moves h⟩
  · next hp => cases h; exact .inl ⟨hp, rfl⟩

/-- A property that does not read the queue of commands, and that every row keeps, is kept by every step. -/
theorem step_keeps {P : State → Prop} (hqueue : ∀ s rest, P s → P { s with pending := rest })
    (hrow : ∀ s c t, Moves s c t → P s → P t) {s t : State} (h : step s = .next t) (hs : P s) : P t := by
  obtain ⟨-, rfl⟩ | ⟨c, rest, -, hm⟩ := step_cases h
  · exact hs
  · exact hrow _ c t hm (hqueue s rest hs)

/-- Settles O1, from the two arms of `step`. -/
theorem stepRunsFrontCommand : Obligations.StepRunsFrontCommand := fun _ _ _ => ⟨rfl, rfl⟩

/-- Settles O2: no row reaches the queue of commands. -/
theorem everyCommandRuns : Obligations.EveryCommandRuns := by
  intro c s
  obtain ⟨t, h⟩ := exec_next c s
  refine ⟨t, h, ?_⟩
  by_cases hc : c = .powerOnReset
  · subst hc; cases h; rfl
  · refine moves_changesOnly (exec_moves h) hc .pending ?_
    cases c with
    | faultReport src => cases src <;> simp [reach, sourcePart]
    | eventPost src p => cases src <;> simp [reach, sourcePart]
    | _ => simp [reach, executorParts, allHeld, allArbiters, allRateFlows, allMonitors, allWaiting]

/-- With RESET low a row other than those of RESET does nothing, or follows lane lock (R133, R170). -/
theorem moves_of_low {c : Instr} {s t : State} (h : Moves s c t) (hlow : s.resetLow = true) (hreset : c ≠ .powerOnReset)
    (hrelease : ∀ v, c ≠ .resetRelease v) :
    t = s ∨ (c = .laneLockGain ∧ t = s.withLink { s.link with laneLock := true }) ∨
      (c = .laneLockLoss ∧ t = s.withLink { s.link with laneLock := false }) := by
  have notLive : ¬ Live s := by simp [hlow]
  cases h with
  | same => exact .inl rfl
  | powerOn => exact absurd rfl hreset
  | resetReleased v => exact absurd rfl (hrelease v)
  | lockGained => exact .inr (.inl ⟨rfl, rfl⟩)
  | lockLostInReset => exact .inr (.inr ⟨rfl, rfl⟩)
  | requestTaken j q rest hasks => exact absurd hasks.1 notLive
  | _ => exact absurd ‹Live s› notLive

/-- Settles O3: of the rows other than those of RESET only the two of lane lock move in reset. -/
theorem resetLowTakesNothing : Obligations.ResetLowTakesNothing := by
  intro c s hlow hreset hrelease
  obtain ⟨t, h⟩ := exec_next c s
  have gained : c = .laneLockGain → t.link.laneLock = true := by rintro rfl; cases h; rfl
  have lost : c = .laneLockLoss → t.link.laneLock = false := by
    rintro rfl
    cases h
    simp [hlow]
  refine ⟨t, h, fun hg hl => ?_, gained, lost, ?_⟩
  · obtain rfl | ⟨rfl, -⟩ | ⟨rfl, -⟩ := moves_of_low (exec_moves h) hlow hreset hrelease
    · rfl
    · exact absurd rfl hg
    · exact absurd rfl hl
  · obtain rfl | ⟨-, rfl⟩ | ⟨-, rfl⟩ := moves_of_low (exec_moves h) hlow hreset hrelease
    · exact .refl _ _
    · exact changesOnly_withLink (laneLock := by simp)
    · exact changesOnly_withLink (laneLock := by simp)

end Sys2Proof.Machine
end

section
/-! PROOFS. The work of the Command Executor: what each step does to its configuration, to the requests of the command in
execution and to the write that this command still owes. -/

namespace Sys2Proof.Machine

open Sys2Proof.Safety

variable {s t : State}

/-! ## The command in execution -/

theorem todoOf_of_running {j : Running} (h : s.cmd.running = some j) : todoOf s = j.todo := by simp [todoOf, h]

theorem commitOf_of_running {j : Running} (h : s.cmd.running = some j) : Safety.commitOf s = j.commit := by
  simp [Safety.commitOf, h]

theorem todoOf_of_idle (h : s.cmd.running = none) : todoOf s = [] := by simp [todoOf, h]

theorem commitOf_of_idle (h : s.cmd.running = none) : Safety.commitOf s = none := by simp [Safety.commitOf, h]

/-- With no write owed the executor's records are as they will be. -/
theorem afterCommit_of_none (h : Safety.commitOf s = none) : afterCommit s.cmd = s.cmd := by
  cases hr : s.cmd.running with
  | none => simp only [afterCommit, hr]
  | some j =>
    rw [commitOf_of_running hr] at h
    simp only [afterCommit, hr, h]

/-- With a write owed they will be as the write makes them. -/
theorem afterCommit_of_some {w : Commit} (h : Safety.commitOf s = some w) : afterCommit s.cmd = (s.commit w).cmd := by
  cases hr : s.cmd.running with
  | none => rw [commitOf_of_idle hr] at h; cases h
  | some j =>
    rw [commitOf_of_running hr] at h
    cases w <;> simp only [afterCommit, hr, h, State.commit, State.withCmd_cmd]

/-- What the executor's guarded checks and its requests rest on. -/
structure Work where
  flows : Table FlowConfig 96
  ports : Table PortConfig 8
  lockClosed : Bool
  commit : Option Commit
  todo : List Request

/-- The work of the executor in a state. -/
def workOf (s : State) : Work :=
  { flows := s.cmd.flows, ports := s.cmd.ports, lockClosed := s.cmd.lockClosed, commit := Safety.commitOf s, todo := todoOf s }

/-- The records of flows once the owed write is made. -/
def Work.flowsAfter (x : Work) : Table FlowConfig 96 :=
  match x.commit with
  | some (.flow f c) => Table.put x.flows f c
  | _ => x.flows

/-- The records of ports once the owed write is made. -/
def Work.portsAfter (x : Work) : Table PortConfig 8 :=
  match x.commit with
  | some (.port e c) => Table.put x.ports e c
  | _ => x.ports

theorem afterCommit_flows (s : State) : (afterCommit s.cmd).flows = (workOf s).flowsAfter := by
  cases h : Safety.commitOf s with
  | none => simp [afterCommit_of_none h, Work.flowsAfter, workOf, h]
  | some w => rw [afterCommit_of_some h]; cases w <;> simp [Work.flowsAfter, workOf, h, State.commit]

theorem afterCommit_ports (s : State) : (afterCommit s.cmd).ports = (workOf s).portsAfter := by
  cases h : Safety.commitOf s with
  | none => simp [afterCommit_of_none h, Work.portsAfter, workOf, h]
  | some w => rw [afterCommit_of_some h]; cases w <;> simp [Work.portsAfter, workOf, h, State.commit]

/-- The work with nothing owed and these requests to send. -/
def Work.settled (x : Work) (todo : List Request) : Work := { x with commit := none, todo := todo }

/-- The work once the owed write is made, with these requests to send. -/
def Work.written (x : Work) (todo : List Request) : Work :=
  { x with flows := x.flowsAfter, ports := x.portsAfter, commit := none, todo := todo }

/-- The work of an executor that runs nothing. -/
theorem workOf_of_idle (h : s.cmd.running = none) : workOf s = (workOf s).settled [] := by
  simp [workOf, Work.settled, todoOf_of_idle h, commitOf_of_idle h]

/-- The work depends on the executor's flows, ports, lock and command in execution only. -/
theorem workOf_congr (hf : t.cmd.flows = s.cmd.flows) (hp : t.cmd.ports = s.cmd.ports)
    (hl : t.cmd.lockClosed = s.cmd.lockClosed) (hr : t.cmd.running = s.cmd.running) : workOf t = workOf s := by
  simp [workOf, todoOf, Safety.commitOf, hf, hp, hl, hr]

/-- Retired tags that leave the drain set of the command in execution leave the work. -/
theorem workOf_drainSets (tags : List GrantTag) : workOf (s.drainSets tags) = workOf s := by
  obtain ⟨mgmt, posts, h⟩ := s.drainSets_eq tags
  rw [h]
  cases hr : s.cmd.running <;> simp [workOf, todoOf, Safety.commitOf, State.withCmd, hr]

theorem workOf_of_cmd (h : t.cmd = s.cmd) : workOf t = workOf s := by
  simp only [workOf, todoOf, Safety.commitOf, h]

theorem workOf_age (s : State) (e : TargetPort) : workOf (s.age e) = workOf s := by
  unfold State.age
  dsimp only
  rw [workOf_drainSets]
  exact workOf_of_cmd (State.hand_cmd ..)

/-! ## Beginning and ending -/

theorem workOf_endCommand (j : Running) : workOf (s.endCommand j) = (workOf s).settled [] := by
  obtain ⟨m, hm⟩ := State.respond_eq (s.withRunning none) j.port j.response
  rw [State.endCommand, hm]
  rfl

/-- A begun command has its requests to send, and owes its write if it has any. -/
theorem workOf_launch (j : Running) :
    workOf (s.launch j) =
      { workOf s with commit := if j.todo = [] then none else j.commit, todo := j.todo } := by
  by_cases h : j.todo = []
  · rw [State.launch_of_nil s h, workOf_endCommand, if_pos h, h]; rfl
  · rw [State.launch_of_todo s h, if_neg h]; rfl

theorem workOf_commit (w : Commit) :
    workOf (s.commit w) =
      { workOf s with
        flows := ({ workOf s with commit := some w } : Work).flowsAfter
        ports := ({ workOf s with commit := some w } : Work).portsAfter } := by
  cases w <;> rfl

/-! ## Steps other than commands and requests -/

theorem reach_of_handler {c : Instr} {handle : State → State} (h : handlerOf c = some handle) :
    reach c = [.linkState, .linkReports] ++ allArbiters ++ allMonitors := by
  cases c <;> first | rfl | cases h

/-- The fall of RESET gives the power-on values. -/
theorem moves_powerOn {c : Instr} (h : Moves s c t) (hc : c = .powerOnReset) : t = s.powerOn ∨ t = s := by
  cases h with
  | powerOn => exact .inl rfl
  | same => exact .inr rfl
  | requestTaken j q => cases q <;> cases hc
  | recordPassed _ _ hh => subst hc; cases hh
  | commandTaken _ htakes => subst hc; cases htakes
  | _ => cases hc

/-- A step resets the part, takes a command, ends one, takes a request, or leaves the executor's work. -/
theorem moves_work {c : Instr} (h : Moves s c t) :
    (c = .powerOnReset ∧ t = s.powerOn) ∨ workOf t = workOf s ∨
      (∃ p r, Live s ∧ s.nextCommand = some (p, r) ∧ t = (s.takeFrom p).beginRecord p r) ∨
      (∃ j, s.cmd.running = some j ∧ j.todo = [] ∧ t = s.endCommand j) ∨
      ∃ j q rest, Asks s j q rest ∧ c = q.row ∧ t = s.serve { j with todo := rest } q := by
  by_cases hpower : c = .powerOnReset
  · obtain ht | rfl := moves_powerOn h hpower
    · exact .inl ⟨hpower, ht⟩
    · exact .inr (.inl rfl)
  · right
    have hc := moves_changesOnly h hpower
    have quiet : Part.flowConfigs ∉ reach c → Part.portConfigs ∉ reach c → Part.lock ∉ reach c → Part.running ∉ reach c →
        workOf t = workOf s := fun hf hp hl hr => workOf_congr (hc _ hf) (hc _ hp) (hc _ hl) (hc _ hr)
    cases h with
    | commandTaken hlive _ hn => exact .inr (.inl ⟨_, _, hlive, hn, rfl⟩)
    | commandEnded _ j hj hq => exact .inr (.inr (.inl ⟨j, hj, hq, rfl⟩))
    | requestTaken j q rest hasks => exact .inr (.inr (.inr ⟨j, q, rest, hasks, rfl, rfl⟩))
    | powerOn => exact absurd rfl hpower
    | same => exact .inl rfl
    | expiryTaken _ e => exact .inl ((workOf_age _ e :))
    | retirementTaken _ e => exact .inl (workOf_drainSets _)
    | recordPassed _ _ hh =>
      refine .inl (quiet ?_ ?_ ?_ ?_) <;> simp [reach_of_handler hh, allArbiters, allMonitors]
    | faultTaken _ src =>
      refine .inl (quiet ?_ ?_ ?_ ?_) <;> cases src <;> simp [reach, sourcePart]
    | posted _ src =>
      refine .inl (quiet ?_ ?_ ?_ ?_) <;> cases src <;> simp [reach, sourcePart]
    | _ =>
      refine .inl (quiet ?_ ?_ ?_ ?_) <;>
        simp [reach, allHeld, allArbiters, allMonitors, allRateFlows, allWaiting]

/-! ## Requests -/

/-- A request that no refusal and no fence answer follows. -/
def isPlain : Request → Bool
  | .release .. | .monitor .. | .tripClear _ | .fenceRead _ | .fenceAnswer _ => false
  | _ => true

/-- Such a request leaves its command in execution, with what it has read. -/
theorem serve_running_of_plain {j : Running} {q : Request} (h : isPlain q = true) :
    ∃ payload scope, (s.serve j q).cmd.running = some { j with payload := payload, scope := scope } := by
  cases q <;> first | exact ⟨_, _, rfl⟩ | cases h

theorem workOf_serve_of_plain {j : Running} {q : Request} {rest : List Request} (h : Asks s j q rest)
    (hq : isPlain q = true) : workOf (s.serve { j with todo := rest } q) = { workOf s with todo := rest } := by
  obtain ⟨-, hj, -⟩ := h
  obtain ⟨payload, scope, hrun⟩ := serve_running_of_plain (s := s) (j := { j with todo := rest }) hq
  have hc := changesOnly_serve s { j with todo := rest } q
  have hflows : (s.serve { j with todo := rest } q).cmd.flows = s.cmd.flows :=
    hc .flowConfigs (by cases q <;> simp [requestParts, allRateFlows] at hq ⊢ <;> cases hq)
  have hports : (s.serve { j with todo := rest } q).cmd.ports = s.cmd.ports :=
    hc .portConfigs (by cases q <;> simp [requestParts, allRateFlows] at hq ⊢ <;> cases hq)
  have hlock : (s.serve { j with todo := rest } q).cmd.lockClosed = s.cmd.lockClosed :=
    hc .lock (by cases q <;> simp [requestParts, allRateFlows])
  simp [workOf, todoOf, Safety.commitOf, hflows, hports, hlock, hrun, hj]

/-- A capture that ends leaves nothing in execution. -/
theorem workOf_endCapture (s : State) (j : Running) : workOf (s.endCapture j) = (workOf s).settled [] := by
  unfold State.endCapture
  dsimp only
  split
  · split
    · obtain ⟨m, posts, hm⟩ := (s.withRunning none).completeFence_eq j.port
        { tag := j.tag, kind := j.kind, notify := j.notify, drain := j.drain }
      rw [hm]; rfl
    · rfl
  · rfl

/-- What the taking of a request does to the work: a refusal ends the command; an accepted guard lets the owed write be made; a
fence read leaves its answer to be taken; and any other request leaves the rest to send. -/
theorem workOf_serve {j : Running} {q : Request} {rest : List Request} (h : Asks s j q rest) :
    (mayRefuse q = true ∧ workOf (s.serve { j with todo := rest } q) = (workOf s).settled []) ∨
    (mayRefuse q = true ∧ (∀ e, q ≠ .tripClear e) ∧
      workOf (s.serve { j with todo := rest } q) = (workOf s).written rest) ∨
    (((∃ e, q = .tripClear e) ∨ mayRefuse q = false) ∧ (∀ e, q ≠ .fenceRead e) ∧
      workOf (s.serve { j with todo := rest } q) = { workOf s with todo := rest }) ∨
    (∃ e, q = .fenceRead e ∧ workOf (s.serve { j with todo := rest } q) = { workOf s with todo := .fenceAnswer e :: rest }) ∨
    (∃ e, q = .fenceAnswer e ∧ (workOf (s.serve { j with todo := rest } q) = workOf s ∨
      (rest = [] ∧ workOf (s.serve { j with todo := rest } q) = (workOf s).settled []))) := by
  have hasks := h
  obtain ⟨-, hj, -⟩ := h
  have hcommit : Safety.commitOf s = j.commit := commitOf_of_running hj
  have kept : ∀ u : State, u.cmd = s.cmd → ∀ k : Running, k.commit = j.commit → k.todo = rest →
      workOf (u.withRunning (some k)) = { workOf s with todo := rest } := by
    intro u hu k hk ht
    simp [workOf, todoOf, Safety.commitOf, hu, hk, ht, hj]
  have refused : ∀ st, workOf (s.withRunning (some (({ j with todo := rest } : Running).refuse st))) = (workOf s).settled [] :=
    fun st => rfl
  have accepted : ∀ u : State, u.cmd = s.cmd →
      workOf ((u.commitOf { j with todo := rest }).withRunning (some { j with todo := rest, commit := none })) =
        (workOf s).written rest := by
    intro u hu
    cases hw : j.commit with
    | none =>
      simp [State.commitOf, hw, workOf, Work.written, Work.flowsAfter, Work.portsAfter, todoOf, Safety.commitOf, hj, hu]
    | some w =>
      cases w <;>
        simp [State.commitOf, hw, workOf, Work.written, Work.flowsAfter, Work.portsAfter, todoOf, Safety.commitOf, hj,
          State.commit, hu]
  cases q with
  | release f e =>
    rw [State.serve]
    split
    · exact .inl ⟨rfl, refused _⟩
    · exact .inr (.inl ⟨rfl, by simp, accepted _ rfl⟩)
  | monitor e enable threshold =>
    rw [State.serve]
    split
    · exact .inl ⟨rfl, refused _⟩
    · exact .inr (.inl ⟨rfl, by simp, accepted _ rfl⟩)
  | tripClear e =>
    rw [State.serve]
    split
    · exact .inl ⟨rfl, refused _⟩
    · exact .inr (.inr (.inl ⟨.inl ⟨e, rfl⟩, by simp, kept _ rfl _ rfl rfl⟩))
  | fenceRead e =>
    refine .inr (.inr (.inr (.inl ⟨e, rfl, ?_⟩)))
    simp [State.serve, workOf, todoOf, Safety.commitOf, hj]
  | fenceAnswer e =>
    rw [State.serve]
    split
    · next tags later hx =>
      split
      · next hrest => exact .inr (.inr (.inr (.inr ⟨e, rfl, .inr ⟨hrest, workOf_endCapture _ _⟩⟩)))
      · exact .inr (.inr (.inl ⟨.inr rfl, by simp, kept _ rfl _ rfl rfl⟩))
    · exact .inr (.inr (.inr (.inr ⟨e, rfl, .inl rfl⟩)))
  | _ => exact .inr (.inr (.inl ⟨.inr rfl, by simp, workOf_serve_of_plain hasks rfl⟩))

end Sys2Proof.Machine
end

section
/-! PROOFS. O55 and O56: what a command begun does to the executor's work, the sums of floors, and the invariants of the
configuration and of the reserve lock. -/

namespace Sys2Proof.Machine

open Sys2Proof.Safety

variable {s t : State}

/-! ## Commands begun (R126) -/

/-- A request that no invariant of the executor's work looks at. -/
def isQuiet : Request → Bool
  | .readController _ | .readDemand _ | .readTripped _ | .readCondition _ | .readBudget _ | .readSlots .. | .hostport ..
  | .profile .. | .epochSet _ | .reshape .. | .fenceRead _ | .fenceAnswer _ | .faultRead _ | .faultClear _ | .faultClearAll
  | .eventMask _ | .eventAck _ | .startEntry _ => true
  | _ => false

/-- A list of requests that invariants need not look into, but for a disable and for a trip clear, which come alone. -/
def PlainTodo (todo : List Request) : Prop :=
  (∀ q ∈ todo, isQuiet q = true) ∨ (∃ f, todo = [.offEntry f, .clearing f]) ∨ ∃ e, todo = [.tripClear e]

theorem workOf_launch_of_commit {j : Running} (h : j.commit = none) :
    workOf (s.launch j) = (workOf s).settled j.todo := by
  rw [workOf_launch, h, ite_self]; rfl

/-- What a command leaves that writes neither flows nor ports: such requests to send, and the lock. -/
def LeavesPlain (x y : Work) : Prop :=
  ∃ todo closed, PlainTodo todo ∧ y = { x with lockClosed := closed, commit := none, todo := todo }

theorem leavesPlain_endCommand (s : State) (j : Running) : LeavesPlain (workOf s) (workOf (s.endCommand j)) :=
  ⟨[], s.cmd.lockClosed, .inl (by simp), workOf_endCommand j⟩

theorem leavesPlain_launch {j : Running} (hj : j.commit = none) (h : PlainTodo j.todo) :
    LeavesPlain (workOf s) (workOf (s.launch j)) :=
  ⟨j.todo, s.cmd.lockClosed, h, workOf_launch_of_commit hj⟩

/-- A command other than FLOW_SET and PORT_SET leaves flows and ports, and owes no write. -/
theorem leavesPlain_begin {j : Running} (hj : j.commit = none) (c : Command) (hf : ∀ f w, c ≠ .flowSet f w)
    (hp : ∀ e w, c ≠ .portSet e w) : LeavesPlain (workOf s) (workOf (s.begin j c)) := by
  cases c with
  | flowSet f w => exact absurd rfl (hf f w)
  | portSet e w => exact absurd rfl (hp e w)
  | flowMode f enable =>
    cases enable with
    | true => exact leavesPlain_launch hj (.inl (by simp [isQuiet]))
    | false => exact leavesPlain_launch hj (.inr (.inl ⟨f, rfl⟩))
  | tripClear e => exact leavesPlain_launch hj (.inr (.inr ⟨e, rfl⟩))
  | portRead e sect =>
    simp only [State.begin, State.beginPortRead]
    split <;> exact leavesPlain_launch hj (.inl (by simp [isQuiet]))
  | hostportSet h w =>
    simp only [State.begin, State.beginHostportSet]
    split
    · exact leavesPlain_endCommand s j
    · exact leavesPlain_launch (s := s.withCmd _) hj (.inl (by simp [isQuiet]))
  | profileSet i w =>
    simp only [State.begin, State.beginProfileSet]
    split
    · exact leavesPlain_endCommand s j
    · exact leavesPlain_launch hj (.inl (by simp [isQuiet]))
  | fence notify drain =>
    cases drain with
    | true => exact leavesPlain_launch hj (.inl (by simp [isQuiet]))
    | false =>
      simp only [State.begin, State.beginFence]
      split <;> exact leavesPlain_endCommand s j
  | reserveLock => exact ⟨[], true, .inl (by simp), workOf_endCommand j⟩
  | reserveUnlock =>
    simp only [State.begin, State.beginReserveUnlock]
    split
    · split
      · exact ⟨[], false, .inl (by simp), workOf_endCommand j⟩
      · exact ⟨[], s.cmd.lockClosed, .inl (by simp), workOf_endCommand _⟩
    · exact leavesPlain_endCommand s j
  | _ => exact leavesPlain_launch hj (.inl (by simp [isQuiet]))

/-- The checks that a FLOW_SET from `c` to `x` passes (R137). -/
def FlowAllowed (y : Work) (f : Flow) (c x : FlowConfig) : Prop :=
  (y.lockClosed = true → x.floor = c.floor) ∧
  (c.floor < x.floor ∨ (x.port ≠ c.port ∧ 0 < x.floor) →
    floorSum (Table.put y.flows f x) x.port ≤ (Table.get y.ports x.port).reserve)

/-- A FLOW_SET is refused, or waits for the release of its flow, or writes at once (R137, R138). -/
theorem workOf_beginFlowSet {j : Running} (hj : j.commit = none) (f : Flow) (w : FlowWrite) :
    let c := Table.get s.cmd.flows f
    let x := (w.onto c).raiseCeiling
    workOf (s.beginFlowSet j f w) = (workOf s).settled [] ∨
      (FlowAllowed (workOf s) f c x ∧ x.port ≠ c.port ∧
        workOf (s.beginFlowSet j f w) =
          { workOf s with commit := some (.flow f x), todo := .release f c.port :: flowRequests f c x }) ∨
      (FlowAllowed (workOf s) f c x ∧ x.port = c.port ∧
        workOf (s.beginFlowSet j f w) =
          { workOf s with flows := Table.put s.cmd.flows f x, commit := none, todo := flowRequests f c x }) := by
  intro c x
  unfold State.beginFlowSet
  dsimp only
  split
  · exact .inl (workOf_endCommand _)
  · next hlock =>
    split
    · exact .inl (workOf_endCommand _)
    · next hreserve =>
      have allowed : FlowAllowed (workOf s) f c x := by
        refine ⟨fun hl => ?_, fun h => ?_⟩
        · by_contra hne
          exact hlock (by simp [show s.cmd.lockClosed = true from hl, hne, x, c])
        · by_contra hlt
          exact hreserve ⟨h, by simpa [workOf] using hlt⟩
      split
      · next hport => exact .inr (.inl ⟨allowed, hport, by rw [workOf_launch]; rfl⟩)
      · next hport => exact .inr (.inr ⟨allowed, not_not.1 hport, by
          refine (workOf_launch_of_commit (by exact hj)).trans ?_
          rw [workOf_commit]; rfl⟩)

/-- The checks that a PORT_SET from `c` to `x` passes (R142). -/
def PortAllowed (y : Work) (e : TargetPort) (c x : PortConfig) : Prop :=
  (y.lockClosed = true → x.reserve = c.reserve) ∧ floorSum y.flows e ≤ x.reserve ∧
  (c.reserve ≤ c.capacity → x.reserve ≤ x.capacity)

/-- A PORT_SET is refused, or waits for its monitor, or writes at once (R142, R143). -/
theorem workOf_beginPortSet {j : Running} (hj : j.commit = none) (e : TargetPort) (w : PortWrite) :
    let c := Table.get s.cmd.ports e
    let x := w.onto c
    workOf (s.beginPortSet j e w) = (workOf s).settled [] ∨
      (PortAllowed (workOf s) e c x ∧ ∃ enable threshold, workOf (s.beginPortSet j e w) =
          { workOf s with commit := some (.port e x), todo := .monitor e enable threshold :: portRequests e c x }) ∨
      (PortAllowed (workOf s) e c x ∧
        workOf (s.beginPortSet j e w) =
          { workOf s with ports := Table.put s.cmd.ports e x, commit := none, todo := portRequests e c x }) := by
  intro c x
  unfold State.beginPortSet
  dsimp only
  split
  · exact .inl (workOf_endCommand _)
  · next hlock =>
    split
    · exact .inl (workOf_endCommand _)
    · next hcapacity =>
      split
      · exact .inl (workOf_endCommand _)
      · next hreserve =>
        have allowed : PortAllowed (workOf s) e c x := by
          refine ⟨fun hl => ?_, by simpa [workOf] using hreserve, fun hc => ?_⟩
          · by_contra hne
            exact hlock (by simp [show s.cmd.lockClosed = true from hl, hne, x, c])
          · cases hr : w.reserve with
            | some v => simp [x, PortWrite.onto, hr]
            | none =>
              have hreserve' : x.reserve = c.reserve := by simp [x, PortWrite.onto, hr]
              cases hcap : w.capacity with
              | none => simpa [x, PortWrite.onto, hr, hcap] using hc
              | some v =>
                rw [hreserve']
                by_contra hlt
                exact hcapacity ⟨by simp [hcap], hr, not_le.1 hlt⟩
        split
        · exact .inr (.inl ⟨allowed, _, _, by rw [workOf_launch]; rfl⟩)
        · exact .inr (.inr ⟨allowed, by
          refine (workOf_launch_of_commit (by exact hj)).trans ?_
          rw [workOf_commit]; rfl⟩)

/-- What the taking of a command does to the work: nothing owed and plain requests, or a FLOW_SET or PORT_SET begun. -/
theorem workOf_take {p : MPort} {r : CommandRecord} :
    LeavesPlain (workOf s) (workOf ((s.takeFrom p).beginRecord p r)) ∨
      (∃ f w, workOf ((s.takeFrom p).beginRecord p r) = workOf ((s.takeFrom p).beginFlowSet (fresh p r) f w)) ∨
      ∃ e w, workOf ((s.takeFrom p).beginRecord p r) = workOf ((s.takeFrom p).beginPortSet (fresh p r) e w) := by
  unfold State.beginRecord
  split
  · exact .inl (leavesPlain_endCommand _ _)
  · exact .inl (leavesPlain_endCommand _ _)
  · next c _ =>
    by_cases hf : ∃ f w, c = .flowSet f w
    · obtain ⟨f, w, rfl⟩ := hf
      exact .inr (.inl ⟨f, w, rfl⟩)
    · by_cases hp : ∃ e w, c = .portSet e w
      · obtain ⟨e, w, rfl⟩ := hp
        exact .inr (.inr ⟨e, w, rfl⟩)
      · exact .inl (leavesPlain_begin (s := s.takeFrom p) rfl c (fun f w h => hf ⟨f, w, h⟩) fun e w h => hp ⟨e, w, h⟩)

/-! ## Sums over the flows -/

/-- A sum in which one term changes. -/
theorem sum_map_change {n : Nat} {g h : Fin n → Nat} (k : Fin n) (hne : ∀ i ≠ k, h i = g i) :
    ((List.finRange n).map h).sum + g k = ((List.finRange n).map g).sum + h k := by
  have others : ∑ i ∈ Finset.univ.erase k, h i = ∑ i ∈ Finset.univ.erase k, g i :=
    Finset.sum_congr rfl fun i hi => hne i (Finset.ne_of_mem_erase hi)
  rw [← Fin.sum_univ_def, ← Fin.sum_univ_def, ← Finset.add_sum_erase _ h (Finset.mem_univ k),
    ← Finset.add_sum_erase _ g (Finset.mem_univ k), others]
  omega

/-- The floor that a flow's record takes from a port's reserve. -/
def floorAt (c : FlowConfig) (e : TargetPort) : Nat := if c.port = e then c.floor else 0

/-- The model's floor sum is that of the statements. -/
theorem floorSum_eq (flows : Table FlowConfig 96) (e : TargetPort) : floorSum flows e = floorsNaming flows e := by
  have h : ∀ l : List Flow,
      ((l.filter fun f => (Table.get flows f).port == e).map fun f => (Table.get flows f).floor).sum =
        (l.map fun f => if (Table.get flows f).port = e then (Table.get flows f).floor else 0).sum := by
    intro l
    induction l with
    | nil => rfl
    | cons f l ih => by_cases hf : (Table.get flows f).port = e <;> simp [hf, ih]
  exact h _

/-- The floors naming a port once one flow's record has changed. -/
theorem floorsNaming_put (flows : Table FlowConfig 96) (f : Flow) (x : FlowConfig) (e : TargetPort) :
    floorsNaming (Table.put flows f x) e + floorAt (Table.get flows f) e = floorsNaming flows e + floorAt x e := by
  have h := sum_map_change (g := fun g => floorAt (Table.get flows g) e)
    (h := fun g => floorAt (Table.get (Table.put flows f x) g) e) f fun g hg => by rw [Table.get_put_ne _ _ hg]
  rw [Table.get_put_self] at h
  exact h

/-- A flow's floor is among those that name its port. -/
theorem floor_le_floorsNaming (flows : Table FlowConfig 96) (f : Flow) :
    (Table.get flows f).floor ≤ floorsNaming flows (Table.get flows f).port := by
  have h : floorAt (Table.get flows f) (Table.get flows f).port ∈
      (List.finRange 96).map fun g => floorAt (Table.get flows g) (Table.get flows f).port :=
    List.mem_map_of_mem (f := fun g => floorAt (Table.get flows g) (Table.get flows f).port) (List.mem_finRange f)
  have hle := List.le_sum_of_mem h
  rw [floorAt, if_pos rfl] at hle
  exact hle

/-! ## The configuration (R4, R142) -/

/-- The arithmetic of floors and reserves, of the tables alone. -/
abbrev Reserves (flows : Table FlowConfig 96) (ports : Table PortConfig 8) : Prop :=
  (∀ f, (Table.get flows f).floor ≤ (Table.get flows f).ceiling ∧ (Table.get flows f).ceiling ≤ 16383) ∧
  ∀ e, floorsNaming flows e ≤ (Table.get ports e).reserve ∧ (Table.get ports e).reserve ≤ (Table.get ports e).capacity

theorem configurationOk_iff (s : State) :
    ConfigurationOk s ↔ Reserves (workOf s).flows (workOf s).ports ∧ Reserves (workOf s).flowsAfter (workOf s).portsAfter := by
  rw [← afterCommit_flows, ← afterCommit_ports]
  exact Iff.rfl

/-- A FLOW_SET leaves the floor at most the ceiling, and the ceiling in range. -/
theorem flowSet_ceiling (w : FlowWrite) {c : FlowConfig} (hc : c.floor ≤ c.ceiling ∧ c.ceiling ≤ 16383) :
    (w.onto c).raiseCeiling.floor ≤ (w.onto c).raiseCeiling.ceiling ∧ (w.onto c).raiseCeiling.ceiling ≤ 16383 := by
  have cells : ∀ (o : Option Nat) (v : Nat), v ≤ 16383 → (o.map clampCells).getD v ≤ 16383 := by
    intro o v hv
    cases o with
    | none => exact hv
    | some x => exact (clampNat_mem x (Nat.zero_le 16383)).2
  have hfloor : (w.onto c).floor ≤ 16383 := cells _ _ (hc.1.trans hc.2)
  have hceiling : (w.onto c).ceiling ≤ 16383 := cells _ _ hc.2
  exact ⟨le_max_left _ _, max_le hfloor hceiling⟩

/-- A FLOW_SET that passes its checks keeps the reserves. -/
theorem reserves_put_flow {y : Work} {f : Flow} {w : FlowWrite} (h : Reserves y.flows y.ports)
    (hx : FlowAllowed y f (Table.get y.flows f) (w.onto (Table.get y.flows f)).raiseCeiling) :
    Reserves (Table.put y.flows f (w.onto (Table.get y.flows f)).raiseCeiling) y.ports := by
  obtain ⟨hceilings, hports⟩ := h
  refine ⟨fun g => ?_, fun e => ⟨?_, (hports e).2⟩⟩
  · rw [Table.get_put]
    split
    · exact flowSet_ceiling w (hceilings f)
    · exact hceilings g
  · generalize (w.onto (Table.get y.flows f)).raiseCeiling = x at hx
    obtain ⟨-, hcheck⟩ := hx
    rw [floorSum_eq] at hcheck
    have hput := floorsNaming_put y.flows f x e
    have hold := (hports e).1
    unfold floorAt at hput
    by_cases he : x.port = e
    · subst he
      by_cases hraise : (Table.get y.flows f).floor < x.floor ∨ (x.port ≠ (Table.get y.flows f).port ∧ 0 < x.floor)
      · exact hcheck hraise
      · simp only [if_true] at hput
        split at hput <;> grind
    · rw [if_neg he] at hput
      omega

/-- A PORT_SET that passes its checks keeps them too. -/
theorem reserves_put_port {y : Work} {e : TargetPort} {x : PortConfig} (h : Reserves y.flows y.ports)
    (hx : PortAllowed y e (Table.get y.ports e) x) : Reserves y.flows (Table.put y.ports e x) := by
  obtain ⟨hceilings, hports⟩ := h
  obtain ⟨-, hfloors, hcapacity⟩ := hx
  rw [floorSum_eq] at hfloors
  refine ⟨hceilings, fun k => ?_⟩
  rw [Table.get_put]
  split
  · next hk => subst hk; exact ⟨hfloors, hcapacity (hports k).2⟩
  · exact hports k

/-- The power-on configuration. -/
theorem configurationOk_powerOn (s : State) : ConfigurationOk s.powerOn := by
  have h : ReservesHold powerOnExecutor := by decide +kernel
  exact ⟨h, h⟩

/-- Settles O55: the checks of FLOW_SET and PORT_SET keep the reserves, whether they write at once or owe the write. -/
theorem stepKeepsReserveArithmetic : Obligations.StepKeepsReserveArithmetic := by
  intro s t hs h
  refine step_keeps (fun _ _ h => h) (fun s c t hm hs => ?_) h hs
  have settled : ∀ x : Work, ∀ todo : List Request, Reserves x.flows x.ports →
      Reserves (x.settled todo).flows (x.settled todo).ports ∧
        Reserves (x.settled todo).flowsAfter (x.settled todo).portsAfter := fun _ _ h => ⟨h, h⟩
  rw [configurationOk_iff] at hs
  obtain ⟨-, rfl⟩ | hw | ⟨p, r, -, -, rfl⟩ | ⟨j, -, -, rfl⟩ | ⟨j, q, rest, hasks, -, rfl⟩ := moves_work hm
  · exact configurationOk_powerOn s
  · rwa [configurationOk_iff, hw]
  · rw [configurationOk_iff]
    obtain ⟨todo, closed, -, hw⟩ | ⟨f, w, hw⟩ | ⟨e, w, hw⟩ := workOf_take (s := s) (p := p) (r := r) <;> rw [hw]
    · exact ⟨hs.1, hs.1⟩
    · obtain h | ⟨hx, -, h⟩ | ⟨hx, -, h⟩ := workOf_beginFlowSet (s := s.takeFrom p) (j := fresh p r) rfl f w <;> rw [h]
      · exact settled _ _ hs.1
      · exact ⟨hs.1, reserves_put_flow hs.1 hx⟩
      · exact ⟨reserves_put_flow hs.1 hx, reserves_put_flow hs.1 hx⟩
    · obtain h | ⟨hx, _, _, h⟩ | ⟨hx, h⟩ := workOf_beginPortSet (s := s.takeFrom p) (j := fresh p r) rfl e w <;> rw [h]
      · exact settled _ _ hs.1
      · exact ⟨hs.1, reserves_put_port hs.1 hx⟩
      · exact ⟨reserves_put_port hs.1 hx, reserves_put_port hs.1 hx⟩
  · rw [configurationOk_iff, workOf_endCommand]
    exact settled _ _ hs.1
  · rw [configurationOk_iff]
    obtain ⟨-, hw⟩ | ⟨-, -, hw⟩ | ⟨-, -, hw⟩ | ⟨e, -, hw⟩ | ⟨e, -, hw | ⟨-, hw⟩⟩ := workOf_serve hasks <;> rw [hw]
    · exact settled _ _ hs.1
    · exact ⟨hs.2, hs.2⟩
    · exact hs
    · exact hs
    · exact hs
    · exact settled _ _ hs.1

/-! ## The reserve lock (R148) -/

/-- No floor and no reserve differs between two configurations. -/
abbrev SameFloors (flows flows' : Table FlowConfig 96) (ports ports' : Table PortConfig 8) : Prop :=
  (∀ f, (Table.get flows' f).floor = (Table.get flows f).floor) ∧
  ∀ e, (Table.get ports' e).reserve = (Table.get ports e).reserve

theorem lockOk_iff (s : State) :
    LockOk s ↔ ((workOf s).lockClosed = true →
      SameFloors (workOf s).flows (workOf s).flowsAfter (workOf s).ports (workOf s).portsAfter) := by
  rw [← afterCommit_flows, ← afterCommit_ports]
  exact Iff.rfl

theorem sameFloors_refl (flows : Table FlowConfig 96) (ports : Table PortConfig 8) : SameFloors flows flows ports ports :=
  ⟨fun _ => rfl, fun _ => rfl⟩

theorem sameFloors_put_flow {y : Work} {f : Flow} {x : FlowConfig} (h : FlowAllowed y f (Table.get y.flows f) x)
    (hlock : y.lockClosed = true) : SameFloors y.flows (Table.put y.flows f x) y.ports y.ports := by
  refine ⟨fun g => ?_, fun _ => rfl⟩
  rw [Table.get_put]
  split
  · next hg => subst hg; exact h.1 hlock
  · rfl

theorem sameFloors_put_port {y : Work} {e : TargetPort} {x : PortConfig} (h : PortAllowed y e (Table.get y.ports e) x)
    (hlock : y.lockClosed = true) : SameFloors y.flows y.flows y.ports (Table.put y.ports e x) := by
  refine ⟨fun _ => rfl, fun k => ?_⟩
  rw [Table.get_put]
  split
  · next hk => subst hk; exact h.1 hlock
  · rfl

/-- What a step keeps of the lock: a closed lock guards what is still owed, and what is written. -/
def KeepsLock (x y : Work) : Prop :=
  (y.lockClosed = true → SameFloors y.flows y.flowsAfter y.ports y.portsAfter) ∧
  (x.lockClosed = true → SameFloors x.flows y.flows x.ports y.ports)

/-- Where nothing is owed after a step that writes no floor and no reserve, the lock guards all. -/
theorem keepsLock_of_settled {x y : Work} (hcommit : y.commit = none) (hflows : y.flows = x.flows) (hports : y.ports = x.ports) :
    KeepsLock x y := by
  refine ⟨fun _ => ?_, fun _ => ?_⟩
  · simp only [Work.flowsAfter, Work.portsAfter, hcommit]; exact sameFloors_refl _ _
  · rw [hflows, hports]; exact sameFloors_refl _ _

/-- A step that leaves the configuration, the lock and the owed write keeps the lock's guard. -/
theorem keepsLock_of_same {x y : Work} (hx : x.lockClosed = true → SameFloors x.flows x.flowsAfter x.ports x.portsAfter)
    (hy : y = { x with todo := y.todo }) : KeepsLock x y := by
  rw [hy]
  exact ⟨hx, fun _ => sameFloors_refl _ _⟩

/-- A command taken keeps the lock's guard, since FLOW_SET and PORT_SET check it. -/
theorem keepsLock_take {p : MPort} {r : CommandRecord} :
    KeepsLock (workOf s) (workOf ((s.takeFrom p).beginRecord p r)) := by
  obtain ⟨todo, closed, -, hw⟩ | ⟨f, w, hw⟩ | ⟨e, w, hw⟩ := workOf_take (s := s) (p := p) (r := r) <;> rw [hw]
  · exact keepsLock_of_settled rfl rfl rfl
  · obtain h | ⟨hx, -, h⟩ | ⟨hx, -, h⟩ := workOf_beginFlowSet (s := s.takeFrom p) (j := fresh p r) rfl f w <;> rw [h]
    · exact keepsLock_of_settled rfl rfl rfl
    · exact ⟨sameFloors_put_flow hx, fun _ => sameFloors_refl _ _⟩
    · exact ⟨fun _ => sameFloors_refl _ _, sameFloors_put_flow hx⟩
  · obtain h | ⟨hx, _, _, h⟩ | ⟨hx, h⟩ := workOf_beginPortSet (s := s.takeFrom p) (j := fresh p r) rfl e w <;> rw [h]
    · exact keepsLock_of_settled rfl rfl rfl
    · exact ⟨sameFloors_put_port hx, fun _ => sameFloors_refl _ _⟩
    · exact ⟨fun _ => sameFloors_refl _ _, sameFloors_put_port hx⟩

/-- Every row but the power-on reset keeps the lock's guard. -/
theorem keepsLock_of_moves {c : Instr} (hm : Moves s c t) (hc : c ≠ .powerOnReset) (hs : LockOk s) :
    KeepsLock (workOf s) (workOf t) := by
  rw [lockOk_iff] at hs
  obtain ⟨hreset, -⟩ | hw | ⟨p, r, -, -, rfl⟩ | ⟨j, -, -, rfl⟩ | ⟨j, q, rest, hasks, -, rfl⟩ := moves_work hm
  · exact absurd hreset hc
  · exact keepsLock_of_same hs (by rw [hw])
  · exact keepsLock_take
  · rw [workOf_endCommand]; exact keepsLock_of_settled rfl rfl rfl
  · obtain ⟨-, hw⟩ | ⟨-, -, hw⟩ | ⟨-, -, hw⟩ | ⟨e, -, hw⟩ | ⟨e, -, hw | ⟨-, hw⟩⟩ := workOf_serve hasks <;> rw [hw]
    · exact keepsLock_of_settled rfl rfl rfl
    · exact ⟨fun _ => sameFloors_refl _ _, hs⟩
    · exact keepsLock_of_same hs rfl
    · exact keepsLock_of_same hs rfl
    · exact keepsLock_of_same hs rfl
    · exact keepsLock_of_settled rfl rfl rfl

/-- Settles O56: with the lock closed FLOW_SET and PORT_SET pass their checks only where floor and reserve stay. -/
theorem closedLockGuardsFloorsAndReserves : Obligations.ClosedLockGuardsFloorsAndReserves := by
  intro s t hs h
  obtain ⟨-, rfl⟩ | ⟨c, rest, hp, hm⟩ := step_cases h
  · exact ⟨hs, fun _ _ => sameFloors_refl _ _⟩
  · by_cases hreset : c = .powerOnReset
    · refine ⟨?_, fun _ hc => absurd (by rw [hp, hreset]; rfl) hc⟩
      obtain rfl | rfl := moves_powerOn hm hreset
      · exact fun hl => absurd (show false = true from hl) (by decide)
      · exact hs
    · obtain ⟨howed, hwritten⟩ := keepsLock_of_moves hm hreset hs
      exact ⟨(lockOk_iff t).2 howed, fun hl _ => hwritten hl⟩

end Sys2Proof.Machine
end

section
/-! PROOFS. O57: the Rate Engine's view of flows and capacities follows the executor's records. -/

namespace Sys2Proof.Machine

open Sys2Proof.Safety

variable {s t : State} {x : Executor} {commit : Option Commit} {q : Request} {todo rest : List Request}

/-! ## The order in which requests are sent (R138, R143) -/

/-- A bound request. -/
def isBound : Request → Bool
  | .bound _ _ => true
  | _ => false

/-- A capacity request. -/
def isCapacity : Request → Bool
  | .capacity _ _ => true
  | _ => false

/-- A command that owes no write brings what the executor holds, for a flow or for a port, and can no longer be refused. -/
theorem sendsInOrder_none_iff :
    sendsInOrder x none todo = true ↔
      (∀ q ∈ todo, bringsCurrent x q = true) ∧
      ((∀ q ∈ todo, updatesRate q = false) ∨ ∀ q ∈ todo, mayRefuse q = false) ∧
      ((∀ q ∈ todo, isBound q = false) ∨ ∀ q ∈ todo, isCapacity q = false) := by
  change (todo.all (bringsCurrent x) && (!todo.any updatesRate || !todo.any mayRefuse) &&
    (!todo.any isBound || !todo.any isCapacity)) = true ↔ _
  simp only [Bool.and_eq_true, Bool.or_eq_true, Bool.not_eq_true', List.any_eq_false, List.all_eq_true,
    Bool.not_eq_true, and_assoc]

theorem sendsInOrder_none_tail (h : sendsInOrder x none (q :: rest) = true) : sendsInOrder x none rest = true := by
  rw [sendsInOrder_none_iff] at h ⊢
  obtain ⟨hcurrent, hrefuse, hkinds⟩ := h
  exact ⟨fun y hy => hcurrent y (.tail _ hy), hrefuse.imp (fun h y hy => h y (.tail _ hy)) fun h y hy => h y (.tail _ hy),
    hkinds.imp (fun h y hy => h y (.tail _ hy)) fun h y hy => h y (.tail _ hy)⟩

/-- Requests that bring the Rate Engine nothing are in order. -/
theorem sendsInOrder_none_of_quiet (h : ∀ q ∈ todo, updatesRate q = false) : sendsInOrder x none todo = true := by
  rw [sendsInOrder_none_iff]
  refine ⟨fun q hq => ?_, .inl h, .inl fun q hq => ?_⟩ <;> have hn := h q hq <;> cases q <;>
    simp_all [updatesRate, bringsCurrent, isBound]

theorem sendsInOrder_congr {y : Executor} (hf : y.flows = x.flows) (hp : y.ports = x.ports) :
    sendsInOrder y commit todo = sendsInOrder x commit todo := by
  have current : bringsCurrent y = bringsCurrent x := by
    funext q
    cases q <;> simp only [bringsCurrent, hf, hp]
  cases commit with
  | none => simp only [sendsInOrder, current]
  | some w => cases w <;> simp only [sendsInOrder, hf, hp]

/-- A command that owes its write has the guarding request before it. -/
theorem commit_none_of_sends (h : sendsInOrder x commit todo = true) (hrelease : ∀ f e r, todo ≠ .release f e :: r)
    (hmonitor : ∀ e n k r, todo ≠ .monitor e n k :: r) : commit = none := by
  cases commit with
  | none => rfl
  | some w =>
    cases w with
    | flow f c => exact absurd (by simpa [sendsInOrder] using h) (hrelease f (Table.get x.flows f).port _)
    | port e c =>
      rcases todo with - | ⟨q, r⟩
      · cases h
      · cases q <;> first | exact absurd rfl (hmonitor _ _ _ _) | cases h

/-! ## The requests of a FLOW_SET and of a PORT_SET -/

theorem flowRequests_mem {f : Flow} {c d : FlowConfig} (hq : q ∈ flowRequests f c d) :
    q = .flowTake f d.port (arbiterViewOf d) ∨ q = .bound f (rateViewOf d) ∨ q = .flowConfig f (arbiterViewOf d) ∨
      q = .targetPort f d.port := by
  simp only [flowRequests, List.mem_append] at hq
  obtain ((h | h) | h) | h := hq <;> split at h <;> simp_all

theorem portRequests_mem {e : TargetPort} {c d : PortConfig} (hq : q ∈ portRequests e c d) :
    q = .capacity e d.capacity ∨ q = .port e (portViewOf d) := by
  simp only [portRequests, List.mem_append] at hq
  obtain h | h := hq <;> split at h <;> simp_all

/-- The requests of a FLOW_SET are in order once its write is made. -/
theorem sendsInOrder_flowRequests {f : Flow} {c d : FlowConfig} (hx : Table.get x.flows f = d) :
    sendsInOrder x none (flowRequests f c d) = true := by
  rw [sendsInOrder_none_iff]
  refine ⟨fun q hq => ?_, .inr fun q hq => ?_, .inr fun q hq => ?_⟩ <;>
    obtain rfl | rfl | rfl | rfl := flowRequests_mem hq <;> simp [bringsCurrent, mayRefuse, isCapacity, hx]

/-- The requests of a PORT_SET too. -/
theorem sendsInOrder_portRequests {e : TargetPort} {c d : PortConfig} (hx : Table.get x.ports e = d) :
    sendsInOrder x none (portRequests e c d) = true := by
  rw [sendsInOrder_none_iff]
  refine ⟨fun q hq => ?_, .inr fun q hq => ?_, .inl fun q hq => ?_⟩ <;>
    obtain rfl | rfl := portRequests_mem hq <;> simp [bringsCurrent, mayRefuse, isBound, hx]

theorem bound_mem_flowRequests {f : Flow} {c d : FlowConfig} (h : rateViewOf d ≠ rateViewOf c) :
    Request.bound f (rateViewOf d) ∈ flowRequests f c d := by
  simp [flowRequests, h]

theorem capacity_mem_portRequests {e : TargetPort} {c d : PortConfig} (h : d.capacity ≠ c.capacity) :
    Request.capacity e d.capacity ∈ portRequests e c d := by
  simp [portRequests, h]

/-! ## The views of the Rate Engine -/

/-- The views of the Rate Engine: of each flow, and of each port's capacity. -/
structure RateViews where
  flow : Flow → RateView
  capacity : TargetPort → Nat

/-- The views in a state. -/
def rateViews (s : State) : RateViews := { flow := fun f => (s.rflow f).view, capacity := Table.get s.rate.capacity }

/-- The invariant of O57, of the executor's work and the views alone. -/
def ViewsHold (w : Work) (v : RateViews) : Prop :=
  (∀ f, v.flow f = rateViewOf (Table.get w.flows f) ∨
    (w.commit = none ∧ Request.bound f (rateViewOf (Table.get w.flows f)) ∈ w.todo)) ∧
  (∀ e, v.capacity e = (Table.get w.ports e).capacity ∨
    (w.commit = none ∧ Request.capacity e (Table.get w.ports e).capacity ∈ w.todo)) ∧
  ∀ x : Executor, x.flows = w.flows → x.ports = w.ports → sendsInOrder x w.commit w.todo = true

theorem viewsOk_iff (s : State) : ViewsOk s ↔ ViewsHold (workOf s) (rateViews s) := by
  refine ⟨fun ⟨hf, he, ho⟩ => ⟨hf, he, fun x hx hy => ?_⟩, fun ⟨hf, he, ho⟩ => ⟨hf, he, ho s.cmd rfl rfl⟩⟩
  rw [sendsInOrder_congr (x := s.cmd) hx hy]; exact ho

/-- The views are the executor's records. -/
def Current (w : Work) (v : RateViews) : Prop :=
  (∀ f, v.flow f = rateViewOf (Table.get w.flows f)) ∧ ∀ e, v.capacity e = (Table.get w.ports e).capacity

variable {w : Work} {v : RateViews}

/-- Current views, with no update on its way, are in order. -/
theorem Current.viewsHold (h : Current w v) (todo : List Request) (hquiet : ∀ q ∈ todo, updatesRate q = false) :
    ViewsHold (w.settled todo) v :=
  ⟨fun f => .inl (h.1 f), fun e => .inl (h.2 e), fun _ _ _ => sendsInOrder_none_of_quiet hquiet⟩

/-- Where no update is on its way the views are current. -/
theorem ViewsHold.current (h : ViewsHold w v) (hquiet : w.commit = none → ∀ q ∈ w.todo, updatesRate q = false) :
    Current w v := by
  obtain ⟨hflow, hport, -⟩ := h
  refine ⟨fun f => (hflow f).resolve_right ?_, fun e => (hport e).resolve_right ?_⟩ <;> rintro ⟨hc, hm⟩ <;>
    have hn := hquiet hc _ hm <;> cases hn

/-- The views are current while a request stands that may still be refused. -/
theorem ViewsHold.current_of_mayRefuse (h : ViewsHold w v) (hq : w.todo = q :: rest) (hr : mayRefuse q = true) :
    Current w v := by
  refine h.current fun hc => ?_
  have hsends := h.2.2 { powerOnExecutor with flows := w.flows, ports := w.ports } rfl rfl
  rw [hc, sendsInOrder_none_iff] at hsends
  refine hsends.2.1.resolve_right fun hall => ?_
  rw [hall q (hq ▸ .head _)] at hr
  cases hr

/-- Nothing is owed while the request to be taken guards no write. -/
theorem ViewsHold.commit_none (h : ViewsHold w v) (hq : w.todo = q :: rest)
    (hplain : (∃ e, q = .tripClear e) ∨ mayRefuse q = false) : w.commit = none := by
  refine commit_none_of_sends (h.2.2 { powerOnExecutor with flows := w.flows, ports := w.ports } rfl rfl) ?_ ?_ <;>
    intros <;> rw [hq] <;> intro he <;> cases he <;> simp [mayRefuse] at hplain

/-- A request goes that brings no update; another that brings none may take its place. -/
theorem ViewsHold.tail (h : ViewsHold w v) (hq : w.todo = q :: rest) (hc : w.commit = none) (hn : updatesRate q = false)
    (put : List Request) (hput : put = [] ∨ ∃ e, put = [.fenceAnswer e]) : ViewsHold (w.settled (put ++ rest)) v := by
  obtain ⟨hflow, hport, hsends⟩ := h
  rw [hc, hq] at hflow hport hsends
  have kept : ∀ y ∈ q :: rest, updatesRate y = true → y ∈ put ++ rest := by
    intro y hy hu
    obtain rfl | hy := List.mem_cons.1 hy
    · rw [hn] at hu; cases hu
    · exact List.mem_append_right _ hy
  refine ⟨fun f => (hflow f).imp_right fun ⟨_, hm⟩ => ⟨rfl, kept _ hm rfl⟩,
    fun e => (hport e).imp_right fun ⟨_, hm⟩ => ⟨rfl, kept _ hm rfl⟩, fun x hx hy => ?_⟩
  have hrest := sendsInOrder_none_tail (hsends x hx hy)
  obtain rfl | ⟨e, rfl⟩ := hput
  · exact hrest
  · rw [sendsInOrder_none_iff] at hrest
    show sendsInOrder x none (.fenceAnswer e :: rest) = true
    rw [sendsInOrder_none_iff]
    simpa [bringsCurrent, updatesRate, mayRefuse, isBound, isCapacity] using hrest

/-- Requests sent that bring an update bring what the executor holds. -/
theorem ViewsHold.sends (h : ViewsHold w v) (hq : w.todo = q :: rest) (hc : w.commit = none) (x : Executor)
    (hx : x.flows = w.flows) (hy : x.ports = w.ports) : bringsCurrent x q = true ∧ sendsInOrder x none rest = true := by
  have hsends := h.2.2 x hx hy
  rw [hc, hq] at hsends
  exact ⟨(sendsInOrder_none_iff.1 hsends).1 q (.head _), sendsInOrder_none_tail hsends⟩

/-- A bound request taken makes the flow's view the executor's. -/
theorem ViewsHold.bound {f : Flow} {d : RateView} (h : ViewsHold w v) (hq : w.todo = .bound f d :: rest)
    (hc : w.commit = none) :
    ViewsHold { w with todo := rest } { v with flow := fun g => if g = f then d else v.flow g } := by
  obtain ⟨hd, -⟩ := h.sends hq hc { powerOnExecutor with flows := w.flows, ports := w.ports } rfl rfl
  replace hd : d = rateViewOf (Table.get w.flows f) := of_decide_eq_true hd
  refine ⟨fun g => ?_, fun e => (h.2.1 e).imp_right fun ⟨_, hm⟩ => ⟨hc, by simpa [hq] using hm⟩, fun x hx hy => ?_⟩
  · dsimp only
    split
    · next hg => rw [hg, hd]; exact .inl rfl
    · next hg => exact (h.1 g).imp_right fun ⟨_, hm⟩ => ⟨hc, by simpa [hq, hg] using hm⟩
  · dsimp only
    rw [hc]
    exact (h.sends hq hc x hx hy).2

/-- A capacity request taken makes the port's capacity the executor's. -/
theorem ViewsHold.capacity {e : TargetPort} {c : Nat} (h : ViewsHold w v) (hq : w.todo = .capacity e c :: rest)
    (hc : w.commit = none) :
    ViewsHold { w with todo := rest } { v with capacity := fun k => if k = e then c else v.capacity k } := by
  obtain ⟨hd, -⟩ := h.sends hq hc { powerOnExecutor with flows := w.flows, ports := w.ports } rfl rfl
  replace hd : c = (Table.get w.ports e).capacity := of_decide_eq_true hd
  refine ⟨fun f => (h.1 f).imp_right fun ⟨_, hm⟩ => ⟨hc, by simpa [hq] using hm⟩, fun k => ?_, fun x hx hy => ?_⟩
  · dsimp only
    split
    · next hk => rw [hk, hd]; exact .inl rfl
    · next hk => exact (h.2.1 k).imp_right fun ⟨_, hm⟩ => ⟨hc, by simpa [hq, hk] using hm⟩
  · dsimp only
    rw [hc]
    exact (h.sends hq hc x hx hy).2

/-- A FLOW_SET writes its flow, and sends the view that this changes. -/
theorem Current.viewsHold_flow (h : Current w v) (f : Flow) (d : FlowConfig) :
    ViewsHold { w with flows := Table.put w.flows f d, commit := none, todo := flowRequests f (Table.get w.flows f) d } v := by
  obtain ⟨hflow, hport⟩ := h
  refine ⟨fun g => ?_, fun e => .inl (hport e), fun x hx _ => sendsInOrder_flowRequests (by rw [hx, Table.get_put_self])⟩
  dsimp only
  rw [hflow g]
  by_cases hg : g = f
  · subst hg
    rw [Table.get_put_self]
    by_cases hd : rateViewOf d = rateViewOf (Table.get w.flows g)
    · exact .inl hd.symm
    · exact .inr ⟨rfl, bound_mem_flowRequests hd⟩
  · rw [Table.get_put_ne _ _ hg]; exact .inl rfl

/-- A PORT_SET writes its port, and sends the capacity that this changes. -/
theorem Current.viewsHold_port (h : Current w v) (e : TargetPort) (d : PortConfig) :
    ViewsHold { w with ports := Table.put w.ports e d, commit := none, todo := portRequests e (Table.get w.ports e) d } v := by
  obtain ⟨hflow, hport⟩ := h
  refine ⟨fun f => .inl (hflow f), fun k => ?_, fun x _ hx => sendsInOrder_portRequests (by rw [hx, Table.get_put_self])⟩
  dsimp only
  rw [hport k]
  by_cases hk : k = e
  · subst hk
    rw [Table.get_put_self]
    by_cases hd : d.capacity = (Table.get w.ports k).capacity
    · exact .inl hd.symm
    · exact .inr ⟨rfl, capacity_mem_portRequests hd⟩
  · rw [Table.get_put_ne _ _ hk]; exact .inl rfl

/-- An accepted guard lets the owed write be made. -/
theorem ViewsHold.written (h : ViewsHold w v) (hq : w.todo = q :: rest) (hr : mayRefuse q = true)
    (hguard : ∀ e, q ≠ .tripClear e) : ViewsHold (w.written rest) v := by
  have hcurrent := h.current_of_mayRefuse hq hr
  have hsends := h.2.2 { powerOnExecutor with flows := w.flows, ports := w.ports } rfl rfl
  rw [hq] at hsends
  cases hc : w.commit with
  | none =>
    have hn : updatesRate q = false := by cases q <;> first | rfl | cases hr
    have := h.tail hq hc hn [] (.inl rfl)
    simpa [Work.written, Work.settled, Work.flowsAfter, Work.portsAfter, hc] using this
  | some y =>
    rw [hc] at hsends
    cases y with
    | flow f d =>
      have htodo : q :: rest = .release f (Table.get w.flows f).port :: flowRequests f (Table.get w.flows f) d := by
        simpa [sendsInOrder] using hsends
      obtain ⟨-, rfl⟩ := List.cons.inj htodo
      simpa [Work.written, Work.flowsAfter, Work.portsAfter, hc] using hcurrent.viewsHold_flow f d
    | port e d =>
      simp only [sendsInOrder] at hsends
      split at hsends
      · next g n k r heq =>
        obtain ⟨-, rfl⟩ := List.cons.inj heq
        simp only [Bool.and_eq_true, decide_eq_true_eq] at hsends
        rw [hsends.2]
        simpa [Work.written, Work.flowsAfter, Work.portsAfter, hc] using hcurrent.viewsHold_port e d
      · cases hsends

/-! ## Steps at the Rate Engine -/

/-- Where neither a flow's view nor a capacity is changed the views stay. -/
theorem rateViews_congr (hf : ∀ f, (t.rflow f).view = (s.rflow f).view) (he : t.rate.capacity = s.rate.capacity) :
    rateViews t = rateViews s := by
  simp only [rateViews, hf, he]

/-- Requests that change flows at the Rate Engine, but not their views. -/
def reachesRate : Request → Bool
  | .startEntry _ | .offEntry _ | .profile _ _ | .reshape _ _ => true
  | _ => false

theorem rateViews_serve_of_elsewhere (s : State) (j : Running) (hn : updatesRate q = false) (hr : reachesRate q = false) :
    rateViews (s.serve j q) = rateViews s := by
  have hf : ∀ f, .rateFlow f ∉ requestParts j q := by cases q <;> simp_all [requestParts, updatesRate, reachesRate]
  have he : .capacities ∉ requestParts j q := by cases q <;> simp_all [requestParts, updatesRate]
  exact rateViews_congr (fun f => congrArg RateFlow.view (changesOnly_serve s j q _ (hf f))) (changesOnly_serve s j q _ he)

theorem rateViews_serve_of_reachesRate (s : State) (j : Running) (hr : reachesRate q = true) :
    rateViews (s.serve j q) = rateViews s := by
  cases q with
  | startEntry f =>
    refine rateViews_congr (fun g => ?_) ?_
    · simp only [State.serve, State.withRunning_rflow]
      split
      · rw [State.setRflow_rflow]
        split
        · next h => rw [h]; rfl
        · rfl
      · rfl
    · simp only [State.serve, State.withRunning_rate]
      split <;> rfl
  | offEntry f =>
    refine rateViews_congr (fun g => ?_) rfl
    simp only [State.serve, State.withRunning_rflow, State.setRflow_rflow]
    split
    · next h => rw [h]
    · rfl
  | profile i y =>
    refine rateViews_congr (fun g => ?_) ?_
    · simp only [State.serve, State.withRunning_rflow, State.withRate_rflow, Table.get_tab]
      split <;> rfl
    · simp only [State.serve, State.withRunning_rate, State.withRate_rate]
  | reshape y a =>
    refine rateViews_congr (fun g => ?_) ?_
    · simp only [State.serve, State.withRunning_rflow, State.withRate_rflow, Table.get_tab]
      split
      · cases a <;> rfl
      · rfl
    · simp only [State.serve, State.withRunning_rate, State.withRate_rate]
  | _ => cases hr

/-- The view of a flow and the capacity of a port change by their request only. -/
theorem rateViews_serve_of_not_updates (s : State) (j : Running) (hn : updatesRate q = false) :
    rateViews (s.serve j q) = rateViews s := by
  by_cases hr : reachesRate q = true
  · exact rateViews_serve_of_reachesRate s j hr
  · exact rateViews_serve_of_elsewhere s j hn (by simpa using hr)

theorem rateViews_serve_bound (s : State) (j : Running) (f : Flow) (d : RateView) :
    rateViews (s.serve j (.bound f d)) = { rateViews s with flow := fun g => if g = f then d else (s.rflow g).view } := by
  simp only [rateViews, State.serve, RateViews.mk.injEq]
  refine ⟨?_, rfl⟩
  funext g
  rw [State.withRunning_rflow, State.setRflow_rflow]
  split <;> rfl

theorem rateViews_serve_capacity (s : State) (j : Running) (e : TargetPort) (c : Nat) :
    rateViews (s.serve j (.capacity e c)) =
      { rateViews s with capacity := fun k => if k = e then c else Table.get s.rate.capacity k } := by
  simp only [rateViews, State.serve, RateViews.mk.injEq]
  refine ⟨?_, ?_⟩
  · funext g
    simp only [State.withRunning_rflow, State.withRate_rflow, Table.get_tab]
    split <;> rfl
  · funext k
    simp [Table.get_put]

/-- Every other step leaves the views. -/
theorem rateViews_of_moves {c : Instr} (h : Moves s c t) (hc : c ≠ .powerOnReset)
    (hrequest : ∀ j q rest, Asks s j q rest → c = q.row → t ≠ s.serve { j with todo := rest } q) :
    rateViews t = rateViews s := by
  have hframe := moves_changesOnly h hc
  have outside : (∀ f, .rateFlow f ∉ reach c) → .capacities ∉ reach c → rateViews t = rateViews s := by
    intro hf he
    have hviews : ∀ f, (t.rflow f).view = (s.rflow f).view := fun f => congrArg RateFlow.view (hframe _ (hf f))
    have hcapacity : t.rate.capacity = s.rate.capacity := hframe _ he
    simp only [rateViews, hviews, hcapacity]
  cases h with
  | powerOn => exact absurd rfl hc
  | same => rfl
  | requestTaken j q rest hasks => exact absurd rfl (hrequest j q rest hasks rfl)
  | commandTaken _ htakes =>
    cases c <;> cases htakes <;> exact outside (by simp [reach, executorParts, allArbiters])
      (by simp [reach, executorParts, allArbiters])
  | recordPassed _ _ hh =>
    exact outside (by simp [reach_of_handler hh, allArbiters, allMonitors])
      (by simp [reach_of_handler hh, allArbiters, allMonitors])
  | tallyDiscarded => rfl
  | tallyComputed _ x rest =>
    refine rateViews_congr (fun f => ?_) ?_
    · simp only [State.compute, State.setArb_rflow, State.withRate_rflow, Table.get_tab]
      rfl
    · simp only [State.compute, State.setArb_rate, State.withRate_rate]
  | faultTaken _ src => exact outside (by cases src <;> simp [reach, sourcePart]) (by cases src <;> simp [reach, sourcePart])
  | posted _ src => exact outside (by cases src <;> simp [reach, sourcePart]) (by cases src <;> simp [reach, sourcePart])
  | _ =>
    exact outside (by simp [reach, allHeld, allArbiters, allMonitors, allWaiting])
      (by simp [reach, allHeld, allArbiters, allMonitors, allWaiting])

/-! ## The invariant -/

theorem viewsOk_powerOn (s : State) : ViewsOk s.powerOn := by
  rw [viewsOk_iff]
  refine Current.viewsHold (w := workOf s.powerOn) ⟨fun f => ?_, fun e => ?_⟩ [] (by simp) <;>
    simp [rateViews, workOf, State.powerOn, State.reset, powerOnRate, powerOnExecutor, State.rflow]

/-- A command taken by an executor whose records the Rate Engine holds. -/
theorem Current.take (h : Current (workOf s) v) {p : MPort} {r : CommandRecord} :
    ViewsHold (workOf ((s.takeFrom p).beginRecord p r)) v := by
  obtain ⟨todo, closed, htodo, hw⟩ | ⟨f, w, hw⟩ | ⟨e, w, hw⟩ := workOf_take (s := s) (p := p) (r := r) <;> rw [hw]
  · refine h.viewsHold todo fun q hq => ?_
    obtain hquiet | ⟨f, rfl⟩ | ⟨e, rfl⟩ := htodo
    · have := hquiet q hq
      cases q <;> first | rfl | cases this
    · simp only [List.mem_cons, List.not_mem_nil, or_false] at hq
      obtain rfl | rfl := hq <;> rfl
    · obtain rfl := List.mem_singleton.1 hq; rfl
  · obtain hb | ⟨-, -, hb⟩ | ⟨-, -, hb⟩ := workOf_beginFlowSet (s := s.takeFrom p) (j := fresh p r) rfl f w <;> rw [hb]
    · exact h.viewsHold [] (by simp)
    · exact ⟨fun g => .inl (h.1 g), fun e => .inl (h.2 e), fun x hx _ => by simp [sendsInOrder, hx, workOf]⟩
    · exact h.viewsHold_flow f _
  · obtain hb | ⟨-, _, _, hb⟩ | ⟨-, hb⟩ := workOf_beginPortSet (s := s.takeFrom p) (j := fresh p r) rfl e w <;> rw [hb]
    · exact h.viewsHold [] (by simp)
    · exact ⟨fun g => .inl (h.1 g), fun e => .inl (h.2 e), fun x _ hx => by simp [sendsInOrder, hx, workOf]⟩
    · exact h.viewsHold_port e _

/-- A request taken keeps the views in order. -/
theorem ViewsHold.serve {j : Running} (h : ViewsHold (workOf s) (rateViews s)) (hasks : Asks s j q rest) :
    ViewsHold (workOf (s.serve { j with todo := rest } q)) (rateViews (s.serve { j with todo := rest } q)) := by
  have hq : (workOf s).todo = q :: rest := (todoOf_of_running hasks.2.1).trans hasks.2.2
  have kept : updatesRate q = false → rateViews (s.serve { j with todo := rest } q) = rateViews s := by
    intro hn
    exact rateViews_serve_of_not_updates s _ hn
  obtain ⟨hr, hw⟩ | ⟨hr, hguard, hw⟩ | ⟨hplain, -, hw⟩ | ⟨e, rfl, hw⟩ | ⟨e, rfl, hw | ⟨rfl, hw⟩⟩ := workOf_serve hasks <;> rw [hw]
  · rw [kept (by cases q <;> first | rfl | cases hr)]
    exact (h.current_of_mayRefuse hq hr).viewsHold [] (by simp)
  · rw [kept (by cases q <;> first | rfl | cases hr)]
    exact h.written hq hr hguard
  · have hc := h.commit_none hq hplain
    by_cases hn : updatesRate q = false
    · rw [kept hn]
      have := h.tail hq hc hn [] (.inl rfl)
      rwa [List.nil_append, Work.settled, ← hc] at this
    · cases q with
      | bound f d => rw [rateViews_serve_bound]; exact h.bound hq hc
      | capacity e c => rw [rateViews_serve_capacity]; exact h.capacity hq hc
      | _ => exact absurd rfl hn
  · rw [kept rfl]
    have := h.tail hq (h.commit_none hq (.inr rfl)) rfl [.fenceAnswer e] (.inr ⟨e, rfl⟩)
    rwa [Work.settled, ← h.commit_none hq (.inr rfl)] at this
  · rw [kept rfl]; exact h
  · rw [kept rfl]
    exact (h.current fun _ y hy => by rw [hq] at hy; obtain rfl := List.mem_singleton.1 hy; rfl).viewsHold [] (by simp)

/-- Every step keeps the views in order. -/
theorem viewsOk_of_moves {c : Instr} (h : Moves s c t) (hviews : ViewsOk s) : ViewsOk t := by
  by_cases hc : c = .powerOnReset
  · obtain rfl | rfl := moves_powerOn h hc
    · exact viewsOk_powerOn s
    · exact hviews
  rw [viewsOk_iff] at hviews ⊢
  by_cases hrequest : ∃ j q rest, Asks s j q rest ∧ c = q.row ∧ t = s.serve { j with todo := rest } q
  · obtain ⟨j, q, rest, hasks, -, rfl⟩ := hrequest
    exact hviews.serve hasks
  rw [rateViews_of_moves h hc fun j q rest ha hr ht => hrequest ⟨j, q, rest, ha, hr, ht⟩]
  obtain ⟨hreset, -⟩ | hw | ⟨p, r, hlive, hn, rfl⟩ | ⟨j, hj, htodo, rfl⟩ | h := moves_work h
  · exact absurd hreset hc
  · rw [hw]; exact hviews
  · obtain ⟨hidle, -⟩ := State.nextCommand_eq_some s hn
    refine Current.take (hviews.current fun _ q hq => ?_)
    rw [workOf_of_idle hidle] at hq
    cases hq
  · rw [workOf_endCommand]
    refine (hviews.current fun _ q hq => ?_).viewsHold [] (by simp)
    rw [show (workOf s).todo = [] from (todoOf_of_running hj).trans htodo] at hq
    cases hq
  · exact absurd h hrequest

/-- Settles O57, by the order of the requests that a command sends. -/
theorem stepKeepsViews : Obligations.StepKeepsViews :=
  fun _ _ hs h => step_keeps (P := ViewsOk) (fun _ _ h => h) (fun _ _ _ hm hs => viewsOk_of_moves hm hs) h hs

end Sys2Proof.Machine
end

section
/-! PROOFS. What the taking and the ending of commands do to a management port; O29 and O30. -/

namespace Sys2Proof.Machine

open Sys2Proof.Safety

variable {s t u : State} {j k : Running} {p q : MPort} {r : CommandRecord} {c : Command}

/-! ## Beginning a command (R126) -/

/-- What a command writes before it ends or waits: the executor's own records, and of the consent set what R149 and R150 write. -/
structure Writes (s : State) (p : MPort) (u : State) : Prop where
  mgmt : ∀ q, u.mgmt q = s.mgmt q
  preference : u.cmd.preference = s.cmd.preference
  consent : u.cmd.consent = s.cmd.consent ∨ u.cmd.consent = PerPort.both false ∨ u.cmd.consent = s.cmd.consent.put p true

theorem Writes.refl : Writes s p s := ⟨fun _ => rfl, rfl, .inl rfl⟩

theorem writes_commit (w : Commit) : Writes s p (s.commit w) := by
  cases w <;> exact ⟨fun _ => rfl, rfl, .inl rfl⟩

/-- Command `j` as it was changed before it ended or waited. -/
structure SameCommand (j k : Running) : Prop where
  port : k.port = j.port
  tag : k.tag = j.tag
  kind : k.kind = j.kind

/-- A command begun in `s` ends in the step, or is in execution with a request before it. -/
inductive Begins (s : State) (j : Running) : State → Prop
  | ends (u : State) (k : Running) (hu : Writes s j.port u) (hk : SameCommand j k) : Begins s j (u.endCommand k)
  | notifies (u : State) (k : Running) (x : Posting) (hu : Writes s j.port u) (hk : SameCommand j k) :
    Begins s j ((u.endCommand k).post .executor x)
  | waits (u : State) (k : Running) (hu : Writes s j.port u) (hk : SameCommand j k) (htodo : k.todo ≠ []) :
    Begins s j (u.withRunning (some k))

theorem Begins.launch (hu : Writes s j.port u) (hk : SameCommand j k) : Begins s j (u.launch k) := by
  by_cases h : k.todo = []
  · rw [u.launch_of_nil h]; exact .ends u k hu hk
  · rw [u.launch_of_todo h]; exact .waits u k hu hk h

theorem begins_begin (s : State) (j : Running) (c : Command) : Begins s j (s.begin j c) := by
  have same : ∀ {todo commit status payload notify},
      SameCommand j { j with todo := todo, commit := commit, status := status, payload := payload, notify := notify } :=
    ⟨rfl, rfl, rfl⟩
  cases c with
  | flowSet f w =>
    simp only [State.begin, State.beginFlowSet]
    split
    · exact .ends s _ .refl same
    · split
      · exact .ends s _ .refl same
      · split
        · exact .launch .refl same
        · exact .launch (writes_commit _) same
  | portSet e w =>
    simp only [State.begin, State.beginPortSet]
    split
    · exact .ends s _ .refl same
    · split
      · exact .ends s _ .refl same
      · split
        · exact .ends s _ .refl same
        · split
          · exact .launch .refl same
          · exact .launch (writes_commit _) same
  | flowMode f enable => cases enable <;> exact .launch .refl same
  | portRead e sect =>
    simp only [State.begin, State.beginPortRead]
    split <;> exact .launch .refl same
  | hostportSet h w =>
    simp only [State.begin, State.beginHostportSet]
    split
    · exact .ends s _ .refl same
    · exact .launch ⟨fun _ => rfl, rfl, .inl rfl⟩ same
  | profileSet i w =>
    simp only [State.begin, State.beginProfileSet]
    split
    · exact .ends s _ .refl same
    · exact .launch .refl same
  | fence notify drain =>
    cases drain with
    | true => simp only [State.begin, State.beginFenceDrain]; exact .launch .refl same
    | false =>
      simp only [State.begin, State.beginFence]
      split
      · exact .notifies s _ _ .refl same
      · exact .ends s _ .refl same
  | reserveLock => exact .ends _ _ ⟨fun _ => rfl, rfl, .inr (.inl rfl)⟩ same
  | reserveUnlock =>
    simp only [State.begin, State.beginReserveUnlock]
    split
    · split
      · exact .ends _ _ ⟨fun _ => rfl, rfl, .inr (.inl rfl)⟩ same
      · exact .ends _ _ ⟨fun _ => rfl, rfl, .inr (.inr rfl)⟩ same
    · exact .ends s _ .refl same
  | flowRead f => simp only [State.begin, State.beginFlowRead]; exact .launch .refl same
  | _ => exact .launch .refl same

theorem begins_beginRecord (s : State) (p : MPort) (r : CommandRecord) : Begins s (fresh p r) (s.beginRecord p r) := by
  unfold State.beginRecord
  split
  · exact .ends s _ .refl ⟨rfl, rfl, rfl⟩
  · exact .ends s _ .refl ⟨rfl, rfl, rfl⟩
  · exact begins_begin s _ _

/-! ## Answers (R127, R132) -/

/-- The port of a response has it answered. -/
theorem State.respond_mgmt_self (s : State) (p : MPort) (x : Response) :
    (s.respond p x).mgmt p = answered (s.mgmt p) x := by
  rw [State.respond_mgmt, answered]
  simp only [true_and]

theorem State.endCommand_mgmt_self (s : State) (j : Running) :
    (s.endCommand j).mgmt j.port = answered (s.mgmt j.port) j.response := by
  rw [State.endCommand, State.respond_mgmt_self, State.withRunning_mgmt]

/-- A command begun is answered, or is in execution; its port's record is otherwise as it was. -/
theorem Begins.mgmt_running (h : Begins s j t) :
    (∃ x : Response, x.tag = j.tag ∧ x.kind = j.kind ∧ t.cmd.running = none ∧ t.mgmt j.port = answered (s.mgmt j.port) x) ∨
    (∃ k, SameCommand j k ∧ k.todo ≠ [] ∧ t.cmd.running = some k ∧ t.mgmt j.port = s.mgmt j.port) := by
  cases h with
  | ends u k hu hk =>
    exact .inl ⟨k.response, hk.tag, hk.kind, u.endCommand_running k, by rw [← hk.port, State.endCommand_mgmt_self, hu.mgmt]⟩
  | notifies u k x hu hk =>
    refine .inl ⟨k.response, hk.tag, hk.kind, u.endCommand_running k, ?_⟩
    show (u.endCommand k).mgmt j.port = _
    rw [← hk.port, State.endCommand_mgmt_self, hu.mgmt]
  | waits u k hu hk htodo => exact .inr ⟨k, hk, htodo, rfl, hu.mgmt _⟩

/-- The executor's records that only takings and writes change: the end of a command leaves them. -/
theorem State.endCommand_kept (u : State) (k : Running) :
    (u.endCommand k).cmd.consent = u.cmd.consent ∧ (u.endCommand k).cmd.preference = u.cmd.preference := by
  obtain ⟨m, hm⟩ := State.respond_eq (u.withRunning none) k.port k.response
  rw [State.endCommand, hm]
  exact ⟨rfl, rfl⟩

theorem Begins.preference (h : Begins s j t) : t.cmd.preference = s.cmd.preference := by
  cases h with
  | ends u k hu => rw [(u.endCommand_kept k).2, hu.preference]
  | notifies u k x hu => exact (u.endCommand_kept k).2.trans hu.preference
  | waits u k hu => exact hu.preference

/-- The consent that a command's beginning leaves at another port than its own. -/
theorem Begins.consent (h : Begins s j t) (hp : p ≠ j.port) (hs : s.cmd.consent.get p = false) : t.cmd.consent.get p = false := by
  have kept : ∀ {u : State}, Writes s j.port u → u.cmd.consent.get p = false := by
    intro u hu
    obtain hc | hc | hc := hu.consent <;> rw [hc]
    · exact hs
    · exact PerPort.get_both false p
    · rw [PerPort.get_put, if_neg hp]; exact hs
  cases h with
  | ends u k hu => rw [(u.endCommand_kept k).1]; exact kept hu
  | notifies u k x hu => exact (congrArg (PerPort.get · p) (u.endCommand_kept k).1).trans (kept hu)
  | waits u k hu => exact kept (u := u) hu

/-! ## O29 and O30 -/

/-- The taking of a command, by its port's record and the command in execution. -/
theorem take_mgmt_running (s : State) (p : MPort) (r : CommandRecord) :
    (∃ x : Response, x.tag = r[1] ∧ x.kind = r[0] ∧ ((s.takeFrom p).beginRecord p r).cmd.running = none ∧
      ((s.takeFrom p).beginRecord p r).mgmt p =
        { s.mgmt p with
          commands := (s.mgmt p).commands.tail, responses := (s.mgmt p).responses ++ [x], promised := false }) ∨
    (∃ k : Running, k.port = p ∧ k.tag = r[1] ∧ k.kind = r[0] ∧ k.todo ≠ [] ∧
      ((s.takeFrom p).beginRecord p r).cmd.running = some k ∧
      ((s.takeFrom p).beginRecord p r).mgmt p = { s.mgmt p with commands := (s.mgmt p).commands.tail, promised := true }) := by
  have hport : (fresh p r).port = p := rfl
  obtain ⟨x, htag, hkind, hrun, hm⟩ | ⟨k, hk, htodo, hrun, hm⟩ := (begins_beginRecord (s.takeFrom p) p r).mgmt_running
  · rw [hport, State.takeFrom_mgmt_self] at hm
    exact .inl ⟨x, htag, hkind, hrun, hm⟩
  · rw [hport, State.takeFrom_mgmt_self] at hm
    exact .inr ⟨k, hk.port, hk.tag, hk.kind, htodo, hrun, hm⟩

/-- Where no port has a takeable command, or one is in execution, none is found. -/
theorem State.nextCommand_eq_none (h : s.cmd.running.isSome ∨ (¬ Ready (s.mgmt .a) ∧ ¬ Ready (s.mgmt .b))) :
    s.nextCommand = none := by
  obtain hj | ⟨ha, hb⟩ := h
  · simp [State.nextCommand, State.chosenPort, hj]
  · rw [← MgmtPort.takeable_iff_ready] at ha hb
    simp [State.nextCommand, State.chosenPort, ha, hb]

/-- The sort of command records that a row which takes commands looks for. -/
def sortOf : Instr → CommandRecord → Bool
  | .commandTake => fun _ => true
  | .unknownCommand => fun r => parseCommand r == .unknown
  | .flowSet => isKind 1
  | .flowModeEnable => fun r => isKind 2 r && choice r[3]
  | .flowModeDisable => fun r => isKind 2 r && !choice r[3]
  | .flowRead => isKind 3
  | .portSet => isKind 4
  | .portRead => isKind 5
  | .hostportSet => isKind 6
  | .profileSet => isKind 7
  | .epochSet => isKind 8
  | .reshapeRestart => fun r => isForm 9 r[3] 0 r
  | .reshapeFreeze => fun r => isForm 9 r[3] 1 r
  | .reshapeThaw => fun r => isForm 9 r[3] 2 r
  | .fence => fun r => isKind 10 r && !choice r[3]
  | .fenceDrain => fun r => isKind 10 r && choice r[3]
  | .reserveLock => isKind 11
  | .reserveUnlock => isKind 12
  | .tripClear => isKind 13
  | .faultRead => isKind 14
  | .faultClear => fun r => isKind 15 r && r[2] != 255#8
  | .faultClearAll => fun r => isKind 15 r && r[2] == 255#8
  | .eventMask => isKind 16
  | .eventAck => isKind 17
  | _ => fun _ => false

/-- With no command in execution there is no request. -/
theorem State.request_of_idle (take : Running → Request → Option State) (h : s.cmd.running = none) : s.request take = none := by
  rw [State.request, h]

/-- With no command in execution such a row looks for a command of its sort. -/
theorem exec_of_idle {c : Instr} (hlive : Live s) (hidle : s.cmd.running = none) (hc : takesCommands c = true) :
    exec c s = .next (s.takeIf (sortOf c)) := by
  have look : ∀ sort : CommandRecord → Bool, (s.live fun s => s.takeIf sort) = .next (s.takeIf sort) :=
    fun sort => s.live_of_high _ hlive
  have request : ∀ (take : State → Running → Request → Option State) (sort : CommandRecord → Bool),
      (s.live fun s => (s.request (take s)).getD (s.takeIf sort)) = .next (s.takeIf sort) := by
    intro take sort
    rw [s.live_of_high _ hlive, State.request_of_idle _ hidle, Option.getD_none]
  cases c with
  | flowRead => exact request State.readFlowPart _
  | portRead => exact request State.readPortPart _
  | fenceDrain => exact request State.takeAnswer _
  | faultRead => exact request State.readFault _
  | faultClear => exact request State.clearFault _
  | faultClearAll => exact request State.clearFaults _
  | eventMask => exact request State.writeMask _
  | eventAck => exact request State.acknowledge _
  | _ => first | exact look _ | cases hc

/-- A record of no command's kind is unknown. -/
theorem parseCommand_of_kind (h : r[0].toNat = 0 ∨ 18 ≤ r[0].toNat) : parseCommand r = .unknown := by
  unfold parseCommand
  split <;> first | rfl | omega

/-- The row of a record's kind looks for such records. -/
theorem sortOf_of_rowOf {row : Instr} (h : rowOf r = some row) : sortOf row r = true ∧ takesCommands row = true := by
  unfold rowOf at h
  split at h <;> rename_i hkind
  case h_2 | h_10 | h_15 => split at h <;> rename_i hform <;> cases h <;>
    simp [sortOf, isKind, choice, hkind, hform, takesCommands]; exact hform
  case h_9 =>
    split at h <;> rename_i hform <;> cases h <;>
      simp [sortOf, isForm, isKind, hkind, takesCommands, ← BitVec.toNat_inj, hform]
  case h_18 =>
    cases h
    have hu : parseCommand r = .unknown := by
      unfold parseCommand
      split <;> first | rfl | contradiction
    simp [sortOf, hu, takesCommands]
  all_goals cases h; simp [sortOf, isKind, hkind, takesCommands]

/-- Every row whose sort of record is offered takes the record (log entry 8). -/
theorem exec_of_offers {c : Instr} (h : Offers s p r) (hc : takesCommands c = true) (hsort : sortOf c r = true) :
    exec c s = .next ((s.takeFrom p).beginRecord p r) := by
  obtain ⟨hlive, hidle, -⟩ := id h
  rw [exec_of_idle hlive hidle hc]
  simp only [State.takeIf, State.nextCommand_of_offers h, hsort, if_true]

/-- Settles O29, from the row of a taking, and the row of the kind as the same taking. -/
theorem commandTakenInTurn : Obligations.CommandTakenInTurn := by
  refine ⟨fun s hlive h => ?_, fun s p r h => ?_⟩
  · show execCommandTake s = _
    rw [execCommandTake, s.live_of_high _ hlive, State.takeIf, State.nextCommand_eq_none h]
  · refine ⟨(s.takeFrom p).beginRecord p r, exec_of_offers h rfl rfl, fun row hrow => ?_, ?_,
      take_mgmt_running s p r, changesOnly_take s p r⟩
    · obtain ⟨hsort, hc⟩ := sortOf_of_rowOf hrow
      exact exec_of_offers h hc hsort
    · rw [(begins_beginRecord (s.takeFrom p) p r).preference]; rfl

/-- Settles O30, by what the end of a command leaves at its port. -/
theorem commandEndAnswers : Obligations.CommandEndAnswers := by
  intro s j hlive hj htodo
  refine ⟨s.endCommand j, ?_, s.endCommand_running j, s.endCommand_mgmt_self j,
    changesOnly_endCommand (by simp) (by simp)⟩
  show execCommandEnd s = _
  rw [execCommandEnd, s.live_of_high _ hlive]
  simp only [hj, htodo, if_true]

end Sys2Proof.Machine
end

section
/-! PROOFS. O53: the queues and promises of the management ports, and an absent port B. -/

namespace Sys2Proof.Machine

open Sys2Proof.Safety

variable {s t u : State} {j k : Running} {p q : MPort} {c : Instr}

/-! ## A port and its command in execution (R123) -/

/-- A port's record, and whether a command of the port is in execution. -/
structure Desk where
  port : MgmtPort
  runs : Bool

/-- Whether a command of a port is in execution. -/
def State.runsAt (s : State) (p : MPort) : Bool := s.cmd.running.any fun j => j.port == p

/-- A port's desk in a state. -/
def deskOf (s : State) (p : MPort) : Desk := { port := s.mgmt p, runs := s.runsAt p }

/-- The bounds and promises of a desk. -/
structure Desk.Ok (d : Desk) : Prop where
  commands : d.port.commands.length ≤ 16
  responses : d.port.responses.length + (if d.port.promised then 1 else 0) ≤ 16
  fence : d.port.fence.isSome → d.port.promised = true
  owed : d.port.promised = true → d.port.fence.isSome ∨ d.runs = true
  alone : d.runs = true → d.port.fence = none

theorem runsAt_iff : s.runsAt p = true ↔ ∃ j ∈ s.cmd.running, j.port = p := by
  simp [State.runsAt, Option.any_eq_true]

theorem portQueuesOk_iff : PortQueuesOk s p ↔ (deskOf s p).Ok := by
  constructor
  · rintro ⟨hc, hr, hf, ho, ha⟩
    refine ⟨hc, hr, hf, fun h => (ho h).imp_right runsAt_iff.2, fun h => ?_⟩
    obtain ⟨j, hj, hp⟩ := runsAt_iff.1 h
    exact ha j hj hp
  · rintro ⟨hc, hr, hf, ho, ha⟩
    exact ⟨hc, hr, hf, fun h => (ho h).imp_right runsAt_iff.1, fun j hj hp => ha (runsAt_iff.2 ⟨j, hj, hp⟩)⟩

variable {d : Desk} {m : MgmtPort}

/-- A port whose queues, promise and fence are as they were. -/
theorem Desk.Ok.kept (h : d.Ok) (hc : m.commands = d.port.commands) (hr : m.responses = d.port.responses)
    (hp : m.promised = d.port.promised) (hf : m.fence = d.port.fence) : (Desk.mk m d.runs).Ok := by
  obtain ⟨h₁, h₂, h₃, h₄, h₅⟩ := h
  constructor <;> simp only [hc, hr, hp, hf] <;> assumption

/-- A response fills the promised slot, or is discarded, and ends the command or the fence that it answers. -/
theorem Desk.Ok.answered (h : d.Ok) (x : Response) :
    (Desk.mk (answered { d.port with fence := none } x) false).Ok := by
  obtain ⟨hc, hr, -, -, -⟩ := h
  unfold Safety.answered
  cases hp : d.port.promised
  · exact ⟨hc, by simpa [hp] using hr, by simp, by simp [hp], by simp⟩
  · exact ⟨hc, by simpa [hp] using hr, by simp, by simp, by simp⟩

/-- A fence takes the place of its command. -/
theorem Desk.Ok.fenced (h : d.Ok) (hp : d.port.promised = true) (x : Fence) :
    (Desk.mk { d.port with fence := some x } false).Ok :=
  ⟨h.commands, h.responses, fun _ => hp, fun _ => .inl rfl, by simp⟩

/-- A takeable command leaves its queue, with a slot promised. -/
theorem Desk.Ok.taken (h : d.Ok) (hready : Ready d.port) (hidle : d.runs = false) :
    (Desk.mk { d.port with commands := d.port.commands.tail, promised := true } true).Ok := by
  obtain ⟨-, hfence, hroom⟩ := hready
  have hp : d.port.promised = false := by
    by_contra hp
    have := h.owed (by simpa using hp)
    simp [hfence, hidle] at this
  rw [hp] at hroom
  exact ⟨List.length_tail ▸ Nat.le_trans (Nat.sub_le _ _) h.commands, by simp at hroom ⊢; omega, by simp, by simp,
    fun _ => hfence⟩

theorem Desk.Ok.pushed (h : d.Ok) (p : MPort) (bytes : List Byte) : (Desk.mk (d.port.pushed p bytes) d.runs).Ok := by
  unfold MgmtPort.pushed
  split
  · next r _ =>
    unfold MgmtPort.joined
    split
    · next hroom =>
      refine ⟨?_, h.responses, h.fence, h.owed, h.alone⟩
      show (d.port.commands ++ [r]).length ≤ 16
      simp only [Config.queueDepth] at hroom
      simp
      omega
    · exact h.kept rfl rfl rfl rfl
  · exact h.kept rfl rfl rfl rfl

theorem Desk.Ok.pulled (h : d.Ok) (clocked : Nat) : (Desk.mk (d.port.pulled clocked) d.runs).Ok := by
  refine ⟨h.commands, ?_, h.fence, h.owed, h.alone⟩
  refine Nat.le_trans (Nat.add_le_add_right ?_ _) h.responses
  simp only [MgmtPort.pulled, MgmtPort.afterPull]
  split <;> simp

theorem Desk.ok_cleared (d : Desk) : (Desk.mk d.port.cleared d.runs).Ok :=
  ⟨by simp [MgmtPort.cleared], by simp [MgmtPort.cleared], by simp [MgmtPort.cleared], by simp [MgmtPort.cleared], fun _ => rfl⟩

/-! ## The executor's operations at a desk -/

theorem deskOf_congr (hm : t.mgmt p = s.mgmt p) (hr : t.runsAt p = s.runsAt p) : deskOf t p = deskOf s p := by
  rw [deskOf, hm, hr]; rfl

/-- The desk of another port than the one whose record is written. -/
theorem deskOf_of_changesOnly {A : List Part} (h : changesOnly s t A) (hm : .mgmt p ∉ A) (hr : t.runsAt p = s.runsAt p) :
    deskOf t p = deskOf s p :=
  deskOf_congr (h _ hm) hr

theorem runsAt_congr (h : t.cmd.running = s.cmd.running) : t.runsAt p = s.runsAt p := by
  rw [State.runsAt, h]; rfl

theorem runsAt_of_running (h : s.cmd.running = some j) : s.runsAt p = (j.port == p) := by
  rw [State.runsAt, h]; rfl

theorem runsAt_of_idle (h : s.cmd.running = none) : s.runsAt p = false := by
  rw [State.runsAt, h]; rfl

/-- The end of a command answers its port, and leaves the other. -/
theorem deskOk_endCommand (hj : s.cmd.running = some k) (hport : j.port = k.port) (h : (deskOf s p).Ok) :
    (deskOf (s.endCommand j) p).Ok := by
  have hruns : (s.endCommand j).runsAt p = false := runsAt_of_idle (s.endCommand_running j)
  by_cases hp : p = j.port
  · subst hp
    have hfence : (s.mgmt j.port).fence = none := h.alone (by simp [deskOf, runsAt_of_running hj, hport])
    have hd : (s.mgmt j.port) = { s.mgmt j.port with fence := none } := by rw [← hfence]
    rw [deskOf, hruns, State.endCommand_mgmt_self, hd]
    exact h.answered _
  · have hc := changesOnly_endCommand (s := s) (j := j) (A := [.running, .mgmt j.port]) (by simp) (by simp)
    rwa [deskOf_of_changesOnly hc (by simpa using hp)]
    rw [hruns, runsAt_of_running hj, ← hport]
    exact (beq_eq_false_iff_ne.2 (Ne.symm hp)).symm

/-- The completion of a fence answers its port. -/
theorem State.completeFence_mgmt_self (s : State) (p : MPort) (x : Fence) :
    (s.completeFence p x).mgmt p = answered { s.mgmt p with fence := none }
      { tag := x.tag, kind := x.kind, status := .done, scope := none, payload := .absent } := by
  unfold State.completeFence
  dsimp only
  split
  · show (State.respond _ _ _).mgmt p = _
    rw [State.respond_mgmt_self, State.setMgmt_mgmt_self]
  · rw [State.respond_mgmt_self, State.setMgmt_mgmt_self]

/-- The completion of a fence, whose port has no command in execution. -/
theorem deskOk_completeFence {x : Fence} (hr : s.runsAt q = false) (h : (deskOf s p).Ok) :
    (deskOf (s.completeFence q x) p).Ok := by
  have hc := changesOnly_completeFence (s := s) (p := q) (x := x) (A := [.mgmt q, .executorPosts]) (by simp) (by simp)
  have hruns : (s.completeFence q x).runsAt p = s.runsAt p := runsAt_congr (hc .running (by simp))
  by_cases hp : p = q
  · subst hp
    rw [deskOf, hruns, hr, State.completeFence_mgmt_self]
    exact h.answered _
  · rwa [deskOf_of_changesOnly hc (by simpa using hp) hruns]

/-- A drain set of a port's fence loses tags, or the fence completes. -/
theorem deskOk_drainPort (tags : List GrantTag) (hq : (deskOf s q).Ok) (h : (deskOf s p).Ok) :
    (deskOf (s.drainPort tags q) p).Ok := by
  obtain hs | ⟨x, hx, -, ⟨-, hs⟩ | ⟨-, hs⟩⟩ := s.drainPort_cases tags q <;> rw [hs]
  · exact h
  · by_cases hp : p = q
    · subst hp
      rw [deskOf, State.setMgmt_mgmt_self]
      refine ⟨h.commands, h.responses, fun _ => h.fence (by rw [deskOf, hx]; rfl), fun _ => .inl rfl, fun hr => ?_⟩
      have := h.alone hr
      rw [deskOf, hx] at this
      cases this
    · rwa [deskOf_of_changesOnly (changesOnly_setMgmt (A := [.mgmt q]) (by simp)) (by simpa using hp) rfl]
  · refine deskOk_completeFence ?_ h
    by_contra hr
    have := hq.alone (show s.runsAt q = true by simpa using hr)
    rw [deskOf, hx] at this
    cases this

theorem deskOf_drainRunning (tags : List GrantTag) : deskOf (s.drainRunning tags) p = deskOf s p := by
  refine deskOf_congr rfl ?_
  unfold State.runsAt State.drainRunning
  cases s.cmd.running <;> rfl

/-- Both ports are in order. -/
def DesksOk (s : State) : Prop := ∀ p, (deskOf s p).Ok

theorem queuesOk_iff : QueuesOk s ↔ DesksOk s := by
  rw [QueuesOk, portQueuesOk_iff, portQueuesOk_iff]
  exact ⟨fun ⟨ha, hb⟩ p => by cases p <;> assumption, fun h => ⟨h .a, h .b⟩⟩

theorem DesksOk.drainSets (h : DesksOk s) (tags : List GrantTag) : DesksOk (s.drainSets tags) := by
  have hrunning : DesksOk (s.drainRunning tags) := fun p => by rw [deskOf_drainRunning]; exact h p
  have ha : DesksOk ((s.drainRunning tags).drainPort tags .a) := fun p => deskOk_drainPort tags (hrunning .a) (hrunning p)
  exact fun p => deskOk_drainPort tags (ha .b) (ha p)

theorem State.endCapture_running (s : State) (j : Running) : (s.endCapture j).cmd.running = none := by
  unfold State.endCapture
  dsimp only
  split
  · split
    · exact changesOnly_completeFence (A := [.mgmt j.port, .executorPosts]) (by simp) (by simp) .running (by simp)
    · rfl
  · rfl

/-- The capture of a fence's drain set ends: the fence completes, waits, or is dropped. -/
theorem DesksOk.endCapture (h : DesksOk s) (hj : s.cmd.running = some k) (hport : j.port = k.port) :
    DesksOk (s.endCapture j) := by
  intro p
  have hruns : (s.endCapture j).runsAt p = false := runsAt_of_idle (s.endCapture_running j)
  have hnow : s.runsAt p = (j.port == p) := by rw [runsAt_of_running hj, hport]
  by_cases hp : p = j.port
  · subst hp
    rw [deskOf, hruns]
    unfold State.endCapture
    dsimp only
    split
    · next hpromised =>
      split
      · rw [State.completeFence_mgmt_self]
        exact (h j.port).answered _
      · rw [State.setMgmt_mgmt_self]
        exact (h j.port).fenced hpromised _
    · next hpromised =>
      refine ⟨(h j.port).commands, (h j.port).responses, (h j.port).fence, fun hp => absurd hp hpromised, fun hr => ?_⟩
      cases hr
  · have hc := changesOnly_endCapture (s := s) (j := j) (A := [.running, .mgmt j.port, .executorPosts]) (by simp) (by simp)
      (by simp)
    rw [deskOf_of_changesOnly hc (by simpa using hp)]
    · exact h p
    · rw [hruns, hnow]; exact (beq_eq_false_iff_ne.2 (Ne.symm hp)).symm

/-- The taking of a command (R124 to R126). -/
theorem DesksOk.take {r : CommandRecord} (h : DesksOk s) (hn : s.nextCommand = some (q, r)) :
    DesksOk ((s.takeFrom q).beginRecord q r) := by
  obtain ⟨hidle, hready, -⟩ := State.nextCommand_eq_some s hn
  rw [MgmtPort.takeable_iff_ready] at hready
  have taken := (h q).taken hready (runsAt_of_idle hidle)
  intro p
  by_cases hp : p = q
  · subst hp
    obtain ⟨x, -, -, hrun, hm⟩ | ⟨k, hport, -, -, -, hrun, hm⟩ := take_mgmt_running s p r <;> rw [deskOf, hm]
    · rw [runsAt_of_idle hrun]
      have hfence : (s.mgmt p).fence = none := hready.2.1
      have := taken.answered x
      simpa [Safety.answered, deskOf, hfence] using this
    · rw [runsAt_of_running hrun, hport, beq_self_eq_true]
      exact taken
  · rw [deskOf_of_changesOnly (changesOnly_take s q r) (by simpa [takingParts] using hp)]
    · exact h p
    · rw [runsAt_of_idle hidle]
      obtain ⟨x, -, -, hrun, hm⟩ | ⟨k, hport, -, -, -, hrun, hm⟩ := take_mgmt_running s q r
      · exact runsAt_of_idle hrun
      · rw [runsAt_of_running hrun, hport]; exact beq_eq_false_iff_ne.2 (Ne.symm hp)

/-- A request other than the answer to a fence read leaves a command of the same port in execution. -/
theorem serve_running {q : Request} (hq : ∀ e, q ≠ .fenceAnswer e) :
    ∃ k, (s.serve j q).cmd.running = some k ∧ k.port = j.port := by
  cases q with
  | fenceAnswer e => exact absurd rfl (hq e)
  | release f e | monitor e n w | tripClear e => simp only [State.serve]; split <;> exact ⟨_, rfl, rfl⟩
  | _ => exact ⟨_, rfl, rfl⟩

theorem mgmt_not_mem_requestParts {q : Request} (hq : ∀ e, q ≠ .fenceAnswer e) : .mgmt p ∉ requestParts j q := by
  cases q with
  | fenceAnswer e => exact absurd rfl (hq e)
  | _ => simp [requestParts, allRateFlows]

/-- The taking of a request. -/
theorem DesksOk.serve {q : Request} {rest : List Request} (h : DesksOk s) (hasks : Asks s j q rest) :
    DesksOk (s.serve { j with todo := rest } q) := by
  obtain ⟨-, hj, -⟩ := hasks
  by_cases hq : ∃ e, q = .fenceAnswer e
  · obtain ⟨e, rfl⟩ := hq
    dsimp only [State.serve]
    split
    · next later _ =>
      have hpop : DesksOk (s.popExecutor e later) := h
      split
      · exact hpop.endCapture hj rfl
      · intro p
        have hruns : s.runsAt p = (j.port == p) := runsAt_of_running hj
        have hp := h p
        rw [deskOf, hruns] at hp
        exact hp
    · exact h
  · have hq' : ∀ e, q ≠ .fenceAnswer e := fun e he => hq ⟨e, he⟩
    obtain ⟨k, hk, hport⟩ := serve_running (s := s) (j := { j with todo := rest }) hq'
    intro p
    rw [deskOf_of_changesOnly (changesOnly_serve s _ q) (mgmt_not_mem_requestParts hq')]
    · exact h p
    · rw [runsAt_of_running hk, runsAt_of_running hj, hport]

/-! ## Every step -/

theorem desksOk_powerOn (s : State) : DesksOk s.powerOn := by
  intro p
  have hm : s.powerOn.mgmt p = powerOnMgmt := PerPort.get_both _ p
  rw [deskOf, hm]
  exact ⟨by simp [powerOnMgmt], by simp [powerOnMgmt], by simp [powerOnMgmt], by simp [powerOnMgmt], fun _ => rfl⟩

/-- An operation at one port's record alone. -/
theorem DesksOk.setMgmt {m : MgmtPort} (h : DesksOk s) (hm : (Desk.mk m (s.runsAt q)).Ok) : DesksOk (s.setMgmt q m) := by
  intro p
  by_cases hp : p = q
  · subst hp
    rw [deskOf, State.setMgmt_mgmt_self]
    exact hm
  · rw [deskOf_of_changesOnly (changesOnly_setMgmt (A := [.mgmt q]) (by simp)) (by simpa using hp) rfl]
    exact h p

theorem DesksOk.congr (h : DesksOk s) (hm : ∀ p, t.mgmt p = s.mgmt p) (hr : t.cmd.running = s.cmd.running) : DesksOk t :=
  fun p => by rw [deskOf_congr (hm p) (runsAt_congr hr)]; exact h p

theorem DesksOk.transact (h : DesksOk s) (p : MPort) (bytes : List Byte) : DesksOk (s.transact p bytes) := by
  have hd : (Desk.mk (s.mgmt p) (s.runsAt p)).Ok := h p
  unfold State.transact
  split
  · exact h.setMgmt (hd.pushed p bytes)
  · exact h.setMgmt (hd.kept rfl rfl rfl rfl)
  · exact h
  · exact h.setMgmt (hd.kept rfl rfl rfl rfl)

theorem DesksOk.clearPort (h : DesksOk s) (p : MPort) : DesksOk (s.clearPort p) := by
  refine (h.setMgmt (q := p) (m := (s.mgmt p).cleared) (Desk.ok_cleared (deskOf s p))).congr (fun _ => rfl) rfl

theorem DesksOk.age (h : DesksOk s) (e : TargetPort) : DesksOk (s.age e) := by
  unfold State.age
  dsimp only
  refine DesksOk.drainSets ?_ _
  have hcmd : ∀ (u : State) (x : List OutRecord) (y : List FaultReport),
      ((u.hand e x).setReports (.arbiter e) y).cmd = u.cmd := fun u x _ => u.hand_cmd e x
  refine h.congr (fun p => ?_) ?_
  · rw [State.mgmt, hcmd]; rfl
  · rw [hcmd]; rfl

theorem desksOk_of_moves (h : Moves s c t) (hs : DesksOk s) : DesksOk t := by
  by_cases hc : c = .powerOnReset
  · obtain rfl | rfl := moves_powerOn h hc
    · exact desksOk_powerOn s
    · exact hs
  have hframe := moves_changesOnly h hc
  have outside : (∀ p, .mgmt p ∉ reach c) → .running ∉ reach c → DesksOk t :=
    fun hm hr => hs.congr (fun p => hframe _ (hm p)) (hframe _ hr)
  cases h with
  | powerOn => exact absurd rfl hc
  | same => exact hs
  | expiryTaken _ e =>
    refine DesksOk.congr (DesksOk.age (s := s.setArb e { s.arb e with expiries := (s.arb e).expiries - 1 }) hs e) ?_ ?_
    · intro p; rfl
    · rfl
  | retirementTaken _ e tag rest => exact DesksOk.drainSets (s := s.popExecutor e rest) hs [tag]
  | transacted _ p bytes => exact hs.transact p bytes
  | pullSelected _ p => exact hs.setMgmt ((hs p).kept rfl rfl rfl rfl)
  | pulled _ p clocked => exact hs.setMgmt ((hs p).pulled clocked)
  | cleared _ p => exact hs.clearPort p
  | commandEnded _ j hj => exact fun p => deskOk_endCommand hj rfl (hs p)
  | commandTaken _ _ hn => exact hs.take hn
  | requestTaken j q rest hasks => exact hs.serve hasks
  | recordPassed _ _ hh =>
    exact outside (by simp [reach_of_handler hh, allArbiters, allMonitors])
      (by simp [reach_of_handler hh, allArbiters, allMonitors])
  | faultTaken _ src => exact outside (by cases src <;> simp [reach, sourcePart]) (by cases src <;> simp [reach, sourcePart])
  | posted _ src => exact outside (by cases src <;> simp [reach, sourcePart]) (by cases src <;> simp [reach, sourcePart])
  | _ =>
    exact outside (by simp [reach, allHeld, allArbiters, allMonitors, allWaiting, allRateFlows])
      (by simp [reach, allHeld, allArbiters, allMonitors, allWaiting, allRateFlows])

/-! ## Port B absent (R130) -/

/-- Port B has nothing, is owed nothing and runs nothing. -/
structure NoPortB (s : State) : Prop where
  commands : (s.mgmt .b).commands = []
  responses : (s.mgmt .b).responses = []
  promised : (s.mgmt .b).promised = false
  fence : (s.mgmt .b).fence = none
  pulling : (s.mgmt .b).pulling = none
  miso : (s.mgmt .b).miso = []
  consent : s.cmd.consent.b = false
  pending : s.unit.pending.b = noCauses
  mask : s.unit.mask.b = allCauses
  running : ∀ j ∈ s.cmd.running, j.port = .a

theorem portBAbsent_iff : PortBAbsent s ↔ (s.solo = true ∨ s.resetLow = true → NoPortB s) :=
  ⟨fun h hs => by obtain ⟨h₁, h₂, h₃, h₄, h₅, h₆, h₇, h₈, h₉, h₁₀⟩ := h hs; exact ⟨h₁, h₂, h₃, h₄, h₅, h₆, h₇, h₈, h₉, h₁₀⟩,
    fun h hs => by obtain ⟨h₁, h₂, h₃, h₄, h₅, h₆, h₇, h₈, h₉, h₁₀⟩ := h hs; exact ⟨h₁, h₂, h₃, h₄, h₅, h₆, h₇, h₈, h₉, h₁₀⟩⟩

theorem NoPortB.congr (h : NoPortB s) (hm : t.mgmt .b = s.mgmt .b) (hc : t.cmd.consent.b = s.cmd.consent.b)
    (hp : t.unit.pending.b = s.unit.pending.b) (hk : t.unit.mask.b = s.unit.mask.b)
    (hr : ∀ j ∈ t.cmd.running, j.port = .a) : NoPortB t := by
  obtain ⟨h₁, h₂, h₃, h₄, h₅, h₆, h₇, h₈, h₉, -⟩ := h
  refine ⟨?_, ?_, ?_, ?_, ?_, ?_, ?_, ?_, ?_, hr⟩ <;> simp only [hm, hc, hp, hk] <;> assumption

/-- A step that writes nothing of port B's. -/
theorem NoPortB.of_changesOnly {A : List Part} (h : NoPortB s) (hA : changesOnly s t A) (hm : .mgmt .b ∉ A) (hc : .consent ∉ A)
    (hp : .causes .b ∉ A) (hk : .mask .b ∉ A) (hr : ∀ j ∈ t.cmd.running, j.port = .a) : NoPortB t :=
  h.congr (hA _ hm) (congrArg PerPort.b (hA .consent hc)) (hA _ hp) (hA _ hk) hr

theorem noPortB_powerOn (s : State) : NoPortB s.powerOn :=
  ⟨rfl, rfl, rfl, rfl, rfl, rfl, rfl, rfl, rfl, fun j hj => by cases hj⟩

/-- A step that leaves the command in execution too. -/
theorem NoPortB.of_outside {A : List Part} (h : NoPortB s) (hA : changesOnly s t A) (hm : .mgmt .b ∉ A) (hc : .consent ∉ A)
    (hp : .causes .b ∉ A) (hk : .mask .b ∉ A) (hr : .running ∉ A) : NoPortB t :=
  h.of_changesOnly hA hm hc hp hk (by rw [hA .running hr]; exact h.running)

/-- An absent port B takes no cause. -/
theorem NoPortB.addPending (h : NoPortB s) (hb : s.fitted .b = false) (p : MPort) (x : Cause) : NoPortB (s.addPending p x) := by
  cases p with
  | a =>
    exact h.of_outside (changesOnly_addPending (A := [.causes .a]) (by simp)) (by simp) (by simp) (by simp) (by simp)
      (by simp)
  | b => rwa [State.addPending, if_neg (by simp [hb])]

theorem NoPortB.addPendingBoth (h : NoPortB s) (hb : s.fitted .b = false) (x : Cause) : NoPortB (s.addPendingBoth x) := by
  obtain ⟨y, hy⟩ := s.addPending_eq .a x
  have hb' : (s.addPending .a x).fitted .b = false := by rw [hy]; exact hb
  exact (h.addPending hb .a x).addPending hb' .b x

theorem NoPortB.takePosting (h : NoPortB s) (hb : s.fitted .b = false) (x : Posting) : NoPortB (s.takePosting x) := by
  cases x with
  | toBoth d => exact h.addPendingBoth hb d
  | toPort p d => exact h.addPending hb p d

theorem NoPortB.takeReport (h : NoPortB s) (hb : s.fitted .b = false) (r : FaultReport) : NoPortB (s.takeReport r) := by
  have unit : ∀ x : FaultUnit, x.pending = s.unit.pending → x.mask = s.unit.mask → NoPortB (s.withUnit x) :=
    fun x hp hk => h.congr rfl rfl (congrArg PerPort.b hp) (congrArg PerPort.b hk) h.running
  unfold State.takeReport
  split
  · exact unit _ rfl rfl
  · split
    · exact (unit (s.unit.put _ _) rfl rfl).addPendingBoth hb _
    · split
      · exact h
      · exact (unit { s.unit with overflow := true } rfl rfl).addPendingBoth hb _

theorem NoPortB.drainSets (h : NoPortB s) (tags : List GrantTag) : NoPortB (s.drainSets tags) := by
  have hrunning : NoPortB (s.drainRunning tags) := by
    refine h.congr rfl rfl rfl rfl fun j hj => ?_
    obtain ⟨k, hk, rfl⟩ := Option.map_eq_some_iff.1 hj
    exact h.running k hk
  have ha : NoPortB ((s.drainRunning tags).drainPort tags .a) :=
    hrunning.of_outside (changesOnly_drainPort (A := [.mgmt .a, .executorPosts]) (by simp) (by simp)) (by simp) (by simp)
      (by simp) (by simp) (by simp)
  rwa [State.drainSets, State.drainPort, ha.fence]

theorem NoPortB.age (h : NoPortB s) (e : TargetPort) : NoPortB (s.age e) := by
  unfold State.age
  dsimp only
  refine NoPortB.drainSets ?_ _
  have handed : ∀ (u : State) (x : List OutRecord) (y : List FaultReport), u.cmd = s.cmd → u.unit = s.unit →
      NoPortB ((u.hand e x).setReports (.arbiter e) y) := by
    intro u x y hcmd hunit
    have hcmd' : ((u.hand e x).setReports (.arbiter e) y).cmd = s.cmd := (u.hand_cmd e x).trans hcmd
    have hunit' : ((u.hand e x).setReports (.arbiter e) y).unit = s.unit := (u.hand_unit e x).trans hunit
    exact h.congr (by rw [State.mgmt, hcmd']; rfl) (by rw [hcmd']) (by rw [hunit']) (by rw [hunit'])
      (by rw [hcmd']; exact h.running)
  exact handed _ _ _ rfl rfl

/-- The taking of a request of port A. -/
theorem NoPortB.serve {q : Request} {rest : List Request} (h : NoPortB s) (hasks : Asks s j q rest) :
    NoPortB (s.serve { j with todo := rest } q) := by
  obtain ⟨-, hj, -⟩ := hasks
  have hport : j.port = .a := h.running j hj
  have hc := changesOnly_serve s { j with todo := rest } q
  refine h.of_changesOnly hc ?_ ?_ ?_ ?_ fun k hk => ?_
  · cases q <;> simp [requestParts, allRateFlows, hport]
  · cases q <;> simp [requestParts, allRateFlows]
  · cases q <;> simp [requestParts, allRateFlows, hport]
  · cases q <;> simp [requestParts, allRateFlows, hport]
  · by_cases hq : ∃ e, q = .fenceAnswer e
    · obtain ⟨e, rfl⟩ := hq
      dsimp only [State.serve] at hk
      split at hk
      · split at hk
        · rw [State.endCapture_running] at hk; cases hk
        · obtain rfl := Option.some.inj hk; exact hport
      · exact h.running k hk
    · obtain ⟨y, hy, hyport⟩ := serve_running (s := s) (j := { j with todo := rest }) (fun e he => hq ⟨e, he⟩)
      rw [hy] at hk
      obtain rfl := Option.some.inj hk
      exact hyport.trans hport

/-- The taking of a command, which is of port A. -/
theorem NoPortB.take {r : CommandRecord} (h : NoPortB s) (hn : s.nextCommand = some (p, r)) :
    NoPortB ((s.takeFrom p).beginRecord p r) := by
  obtain ⟨-, hready, -⟩ := State.nextCommand_eq_some s hn
  obtain rfl : p = .a := by
    cases p with
    | a => rfl
    | b => rw [MgmtPort.takeable, h.commands] at hready; cases hready
  have hc := changesOnly_take s .a r
  refine h.congr (hc (.mgmt .b) (by simp [takingParts])) ?_ (hc (.causes .b) (by simp [takingParts]))
    (hc (.mask .b) (by simp [takingParts]))
    fun k hk => ?_
  · rw [h.consent]
    exact (begins_beginRecord (s.takeFrom .a) .a r).consent (p := .b) (by simp [fresh]) h.consent
  · obtain ⟨x, -, -, hrun, -⟩ | ⟨y, hport, -, -, -, hrun, -⟩ := take_mgmt_running s .a r <;> rw [hrun] at hk
    · cases hk
    · obtain rfl := Option.some.inj hk; exact hport

theorem noPortB_of_moves (h : Moves s c t) (hc : c ≠ .powerOnReset) (hb : s.fitted .b = false) (hs : NoPortB s) : NoPortB t := by
  have hframe := moves_changesOnly h hc
  have fitted : ∀ {p}, s.fitted p = true → p = .a := by
    rintro (_ | _) hp
    · rfl
    · rw [hb] at hp; cases hp
  have atA : ∀ {m : MgmtPort}, NoPortB (s.setMgmt .a m) := hs.congr rfl rfl rfl rfl hs.running
  cases h with
  | powerOn => exact absurd rfl hc
  | same => exact hs
  | expiryTaken _ e =>
    have := NoPortB.age (s := s.setArb e { s.arb e with expiries := (s.arb e).expiries - 1 })
      (hs.congr rfl rfl rfl rfl hs.running) e
    exact this.congr rfl rfl rfl rfl this.running
  | retirementTaken _ e tag rest =>
    exact NoPortB.drainSets (s := s.popExecutor e rest) (hs.congr rfl rfl rfl rfl hs.running) [tag]
  | transacted _ p bytes hfit =>
    obtain rfl := fitted hfit
    exact hs.of_outside hframe (by simp [reach]) (by simp [reach]) (by simp [reach]) (by simp [reach]) (by simp [reach])
  | pullSelected _ p hfit =>
    obtain rfl := fitted hfit
    exact atA
  | pulled _ p clocked hfit =>
    obtain rfl := fitted hfit
    exact atA
  | cleared _ p hfit =>
    obtain rfl := fitted hfit
    exact hs.congr rfl rfl rfl rfl hs.running
  | commandEnded _ j hj =>
    have hport := hs.running j hj
    have hend := changesOnly_endCommand (s := s) (j := j) (A := [.running, .mgmt j.port]) (by simp) (by simp)
    refine hs.of_changesOnly hend (by simp [hport]) (by simp) (by simp) (by simp) fun k hk => ?_
    rw [State.endCommand_running] at hk
    cases hk
  | commandTaken _ _ hn => exact hs.take hn
  | requestTaken j q rest hasks => exact hs.serve hasks
  | recordPassed _ _ hh =>
    refine hs.of_outside hframe ?_ ?_ ?_ ?_ ?_ <;> simp [reach_of_handler hh, allArbiters, allMonitors]
  | faultTaken _ src r rest =>
    have : NoPortB (s.setReports src rest) := by
      cases src <;> exact hs.congr rfl rfl rfl rfl hs.running
    exact this.takeReport (by cases src <;> exact hb) r
  | posted _ src p x =>
    have : NoPortB (s.setPosts src ((s.postsOf src).erase x)) := by
      cases src <;> exact hs.congr rfl rfl rfl rfl hs.running
    exact this.takePosting (by cases src <;> exact hb) x
  | _ =>
    refine hs.of_outside hframe ?_ ?_ ?_ ?_ ?_ <;>
      simp [reach, allHeld, allArbiters, allMonitors, allWaiting, allRateFlows]

/-- Only the release of RESET and the power-on reset change the SOLO level or the line. -/
theorem lines_not_mem_reach (hr : ∀ x, c ≠ .resetRelease x) : .solo ∉ reach c ∧ .resetLine ∉ reach c := by
  cases c with
  | resetRelease x => exact absurd rfl (hr x)
  | faultReport src | eventPost src => cases src <;> simp [reach, sourcePart]
  | _ => simp [reach, executorParts, allHeld, allArbiters, allMonitors, allWaiting, allRateFlows]

/-- While RESET is high its release does nothing. -/
theorem moves_resetRelease_of_high {x : Bool} (h : Moves s c t) (hc : c = .resetRelease x) (hlive : Live s) : t = s := by
  cases h with
  | same => rfl
  | resetReleased _ hlow => rw [hlive] at hlow; cases hlow
  | recordPassed _ _ hh => subst hc; cases hh
  | commandTaken _ htakes => subst hc; cases htakes
  | requestTaken j q => cases q <;> cases hc
  | _ => cases hc

theorem portBAbsent_of_moves (h : Moves s c t) (hs : PortBAbsent s) : PortBAbsent t := by
  rw [portBAbsent_iff] at hs ⊢
  intro ht
  by_cases hc : c = .powerOnReset
  · obtain rfl | rfl := moves_powerOn h hc
    · exact noPortB_powerOn s
    · exact hs ht
  by_cases hr : ∃ x, c = .resetRelease x
  · obtain ⟨x, rfl⟩ := hr
    cases hlow : s.resetLow with
    | true =>
      have hn := hs (.inr hlow)
      have hframe := moves_changesOnly h hc
      exact hn.of_outside hframe (by simp [reach]) (by simp [reach]) (by simp [reach]) (by simp [reach]) (by simp [reach])
    | false => obtain rfl := moves_resetRelease_of_high h rfl hlow; exact hs ht
  have hr' : ∀ x, c ≠ .resetRelease x := fun x hx => hr ⟨x, hx⟩
  have hframe := moves_changesOnly h hc
  have hsolo : t.solo = s.solo := hframe .solo (lines_not_mem_reach hr').1
  have hline : t.resetLow = s.resetLow := hframe .resetLine (lines_not_mem_reach hr').2
  rw [hsolo, hline] at ht
  have hn := hs ht
  cases hlow : s.resetLow with
  | true =>
    obtain rfl | ⟨-, rfl⟩ | ⟨-, rfl⟩ := moves_of_low h hlow hc hr'
    · exact hn
    · exact hn.congr rfl rfl rfl rfl hn.running
    · exact hn.congr rfl rfl rfl rfl hn.running
  | false =>
    have hhigh : s.solo = true := ht.resolve_right (by simp [hlow])
    exact noPortB_of_moves h hc (by simp [State.fitted, hhigh]) hn

/-- Settles O53: each operation of the executor at a port keeps the port's bounds and promises, and at an absent port there is
none. -/
theorem stepKeepsQueues : Obligations.StepKeepsQueues := by
  intro s t h
  refine ⟨fun hs => ?_, fun _ hs => ?_⟩
  · rw [queuesOk_iff] at hs ⊢
    exact step_keeps (P := DesksOk) (fun _ _ h => h) (fun _ _ _ hm hs => desksOk_of_moves hm hs) h hs
  · exact step_keeps (P := PortBAbsent) (fun _ _ h => h) (fun _ _ _ hm hs => portBAbsent_of_moves hm hs) h hs

end Sys2Proof.Machine
end

section
/-! PROOFS. What a step can do to an arbiter's grants and tallies, and to the fault table: parts of O54. -/

namespace Sys2Proof.Machine

open Sys2Proof.Safety

variable {s t u : State} {c : Instr} {e k : TargetPort}

/-! ## What the grants and tallies of an arbiter are made of -/

/-- The fields of an arbiter that its grants, its budget and its tallies are made of; the rest is messages and the rotation. -/
structure ArbiterCore where
  slots : Table GrantSlot 8
  budget : Nat
  granted : Nat
  view : PortView
  tallies : List Tally

/-- The core of an arbiter. -/
def Arbiter.core (a : Arbiter) : ArbiterCore :=
  { slots := a.slots, budget := a.budget, granted := a.granted, view := a.view, tallies := a.tallies }

/-- The core of a port's arbiter in a state. -/
def State.core (s : State) (e : TargetPort) : ArbiterCore := (s.arb e).core

theorem State.core_congr (h : t.arb e = s.arb e) : t.core e = s.core e := congrArg Arbiter.core h

theorem State.core_setArb (s : State) (e k : TargetPort) (x : Arbiter) :
    (s.setArb e x).core k = if k = e then x.core else s.core k := by
  rw [State.core, State.setArb_arb]
  split <;> rfl

/-- A write of an arbiter's messages. -/
theorem State.core_setArb_of_core {x : Arbiter} (h : x.core = s.core e) : (s.setArb e x).core k = s.core k := by
  rw [State.core_setArb]
  split
  · next hk => rw [h, hk]
  · rfl

theorem State.core_popArbiter (s : State) (e : TargetPort) (rest : List ArbiterMsg) : (s.popArbiter e rest).core k = s.core k :=
  State.core_setArb_of_core rfl

theorem State.core_setReports (s : State) (src : Source) (x : List FaultReport) : (s.setReports src x).core k = s.core k := by
  cases src with
  | arbiter e => exact State.core_setArb_of_core rfl
  | _ => rfl

theorem State.core_report (s : State) (src : Source) (r : FaultReport) : (s.report src r).core k = s.core k :=
  s.core_setReports src _

theorem State.core_setPosts (s : State) (src : Source) (x : List Posting) : (s.setPosts src x).core k = s.core k := by
  cases src <;> rfl

theorem State.core_shutdown (s : State) (e : TargetPort) (b : Bool) : (s.shutdown e b).core k = s.core k := by
  rw [State.shutdown, State.post, State.core_setPosts, State.core_report]
  exact State.core_setArb_of_core rfl

theorem State.core_takeMessage (s : State) (e : TargetPort) (m : MonitorMsg) : (s.takeMessage e m).core k = s.core k := by
  cases m with
  | status up level =>
    simp only [State.takeMessage, State.takeStatus, State.statusUp]
    split
    · split
      · exact State.core_setPosts _ _ _
      · rfl
    · split
      · exact s.core_shutdown e true
      · rfl
  | linkLoss =>
    simp only [State.takeMessage, State.takeLoss]
    split
    · exact s.core_shutdown e false
    · rfl

theorem State.core_compute (s : State) (x : Tally) : (s.compute x).core k = s.core k := by
  rw [State.compute, State.core_setArb]
  split
  · next hk => rw [hk]; rfl
  · exact State.core_congr (State.withRate_arb ..)

theorem State.core_refill (s : State) (e : TargetPort) (x : RefillSet) : (s.refill e x).core k = s.core k := by
  rw [State.refill]
  exact State.core_congr (State.withHeld_arb ..)

/-! ## The messages that the monitors take (R117) -/

/-- What every taking of a monitor's message keeps is kept when they take their link-loss requests. -/
theorem State.takeLosses_keeps {P : State → Prop} (hpop : ∀ u e rest, P u → P (u.popMonitor e rest))
    (htake : ∀ u e m, P u → P (u.takeMessage e m)) (h : P s) : P s.takeLosses := by
  have through : ∀ (e : TargetPort) (l : List MonitorMsg) (u : State), P u → P (State.takeThroughLoss e l u) := by
    intro e l
    induction l with
    | nil => exact fun u hu => hu
    | cons m rest ih =>
      intro u hu
      rw [State.takeThroughLoss]
      split
      · exact ih _ (htake _ e m (hpop u e rest hu))
      · exact hu
  have fold : ∀ (l : List TargetPort) (u : State), P u →
      P (l.foldl (fun u e => State.takeThroughLoss e (u.mon e).inbox u) u) := by
    intro l
    induction l with
    | nil => exact fun u hu => hu
    | cons e l ih => exact fun u hu => ih _ (through e _ u hu)
  exact fold _ s h

theorem State.core_takeLosses (s : State) : s.takeLosses.core k = s.core k :=
  State.takeLosses_keeps (P := fun u => u.core k = s.core k) (fun _ _ _ h => h)
    (fun u e m h => (u.core_takeMessage e m).trans h) rfl

/-- A handled record reaches an arbiter as a message. -/
theorem core_handler {handle : State → State} (h : handlerOf c = some handle) (u : State) : (handle u).core k = u.core k := by
  have pass : ∀ (v : State) (e : TargetPort) (m : ArbiterMsg), (v.passToArbiter e m).core k = v.core k :=
    fun v e m => State.core_setArb_of_core rfl
  cases c <;> cases h
  case unknownKindRecord => rfl
  case backlog r =>
    dsimp only [State.takeBacklog, State.passBacklog]
    repeat' split
    all_goals first
      | rfl
      | exact pass _ _ _
  case done r =>
    unfold State.takeDone
    split
    · rfl
    · exact pass _ _ _
  case tstatRoute r => rfl

theorem core_passedRecord {handle : State → State} (h : handlerOf c = some handle) :
    (s.passedRecord handle).core k = s.core k := by
  have link : ∀ (v : State) (x : LinkInterface), (v.withLink x).core k = v.core k := fun v x =>
    State.core_congr (v.withLink_arb x k)
  obtain ⟨-, hp⟩ | ⟨-, -, hp⟩ | ⟨-, -, hp⟩ := s.passedRecord_cases handle <;> rw [hp]
  · rw [core_handler h, link]
  · rw [core_handler h, link, State.core_takeLosses]
  · rw [link]

/-- Rows that deal with an arbiter's grants, budget or tallies. -/
def dealsAt : Instr → TargetPort → Bool
  | .arbiterEpochExpiry e, k | .tallyArrival e, k | .doneMatch e, k | .shutdownRequest e, k | .grantIssue e, k => k == e
  | .portRequest, _ => true
  | _, _ => false

theorem State.core_of_changesOnly {A : List Part} (h : changesOnly s t A) (hk : .arbiter k ∉ A) : t.core k = s.core k :=
  State.core_congr (h _ hk)

/-- A request that leaves every arbiter's core. -/
theorem core_serve (s : State) (j : Running) {q : Request} (hq : q.row ≠ .portRequest) : (s.serve j q).core k = s.core k := by
  have hc := changesOnly_serve s j q
  cases q with
  | port e v => exact absurd rfl hq
  | fenceRead e => exact State.core_setArb_of_core rfl
  | fenceAnswer e =>
    dsimp only [State.serve]
    have pop : ∀ rest, (s.popExecutor e rest).core k = s.core k := fun rest => State.core_setArb_of_core rfl
    split
    · next rest _ =>
      split
      · refine Eq.trans (State.core_of_changesOnly (changesOnly_endCapture (A := [.running, .mgmt j.port, .executorPosts])
          ?_ ?_ ?_) ?_) (pop rest) <;> simp
      · exact pop rest
    · rfl
  | _ => exact State.core_of_changesOnly hc (by simp [requestParts, allRateFlows])

/-- Every other row leaves the core of an arbiter. -/
theorem core_of_moves (h : Moves s c t) (hc : c ≠ .powerOnReset) (hk : dealsAt c k = false) : t.core k = s.core k := by
  have hframe := moves_changesOnly h hc
  have outside : .arbiter k ∉ reach c → t.core k = s.core k := State.core_of_changesOnly hframe
  cases h with
  | powerOn => exact absurd rfl hc
  | same => rfl
  | epochExpired => rw [State.core, State.withArbiters_arb, Table.get_tab]; rfl
  | expiryTaken _ e | tallyArrived _ e | completed _ e | doneLate _ e | shutdownTaken _ e | grantIssued _ e =>
    exact outside (by simpa [reach, allHeld, dealsAt] using hk)
  | tallyDiscarded => rfl
  | tallyComputed _ x rest => exact State.core_compute _ x
  | refillDiscarded => exact State.core_setArb_of_core rfl
  | refillTaken _ e x rest =>
    rw [State.core_refill]
    exact State.core_setArb_of_core rfl
  | recordPassed _ _ hh => exact core_passedRecord hh
  | backlogApplied _ e f cells flush rest =>
    have pop := s.core_popArbiter (k := k) e rest
    unfold State.applyBacklog
    split
    · rw [State.core_report, pop]
    · split
      · exact pop
      · rw [State.core_report, pop]
  | statusTaken _ e up level rest => exact State.core_takeMessage (s.popMonitor e rest) e (.status up level)
  | lossTaken _ e rest => exact State.core_takeMessage (s.popMonitor e rest) e .linkLoss
  | retirementTaken _ e tag rest =>
    have pop : (s.popExecutor e rest).core k = s.core k := State.core_setArb_of_core rfl
    obtain ⟨m, x, hd⟩ := (s.popExecutor e rest).drainSets_eq [tag]
    rw [hd]; exact pop
  | faultTaken _ src r rest =>
    have taken : ∀ u : State, (u.takeReport r).core k = u.core k := fun u =>
      State.core_of_changesOnly (changesOnly_takeReport (A := [.faultTable, .overflow, .causes .a, .causes .b]) (by simp)
        (by simp) (by simp) (by simp)) (by simp)
    rw [taken, State.core_setReports]
  | posted _ src p x =>
    have taken : ∀ u : State, (u.takePosting x).core k = u.core k := fun u =>
      State.core_of_changesOnly (changesOnly_takePosting (A := [.causes .a, .causes .b]) (by simp) (by simp)) (by simp)
    rw [taken, State.core_setPosts]
  | commandTaken _ _ hn => exact State.core_of_changesOnly (changesOnly_take _ _ _) (by simp [takingParts])
  | requestTaken j q rest hasks => exact core_serve s _ fun hq => by rw [hq] at hk; cases hk
  | _ => exact outside (by simp [reach, allMonitors, allWaiting])

/-! ## What the rows that deal with an arbiter's core make of it -/

theorem State.core_hand (s : State) (e : TargetPort) (rs : List OutRecord) : (s.hand e rs).core k = s.core k :=
  State.core_congr (s.hand_arb e k rs)

theorem State.core_drainSets (s : State) (tags : List GrantTag) : (s.drainSets tags).core k = s.core k := by
  obtain ⟨m, x, hd⟩ := s.drainSets_eq tags
  rw [hd]
  exact State.core_congr (State.withCmd_arb ..)

theorem State.core_withHeld (s : State) (x : Table ArbiterFlow 96) : (s.withHeld x).core k = s.core k :=
  State.core_congr (State.withHeld_arb ..)

theorem State.core_setDemand (s : State) (f : Flow) (x : Demand) : (s.setDemand f x).core k = s.core k :=
  State.core_congr (State.setDemand_arb ..)

/-- Grants retire: of the core only the slots differ. -/
theorem State.core_retire (s : State) (e : TargetPort) (gone : List (Slot × Grant)) :
    ∃ slots, (s.retire e gone).core e = { s.core e with slots := slots } := by
  have h : (s.retire e gone).core e = Arbiter.core _ := congrArg Arbiter.core (s.retire_arb_self e gone)
  exact ⟨_, h⟩

theorem State.core_age (s : State) (e : TargetPort) : ∃ slots, (s.age e).core e = { s.core e with slots := slots } := by
  unfold State.age
  dsimp only
  obtain ⟨slots, h⟩ := (s.setArb e (s.arb e).aged).core_retire e ((s.setArb e (s.arb e).aged).arb e).expired
  refine ⟨slots, ?_⟩
  rw [State.core_drainSets, State.core_setReports, State.core_hand, h, State.core_setArb, if_pos rfl]
  rfl

theorem State.core_complete (s : State) (e : TargetPort) (n : Slot) (g : Grant) (j : Nat) (endMark : Bool) :
    ∃ slots, (s.complete e n g j endMark).core e = { s.core e with slots := slots } := by
  have credited : (s.credit g.flow j).core e = s.core e := s.core_setDemand _ _
  obtain ⟨slots, h⟩ := (s.credit g.flow j).core_retire e [(n, g)]
  rw [credited] at h
  unfold State.complete
  dsimp only
  split
  · exact ⟨slots, by rw [State.core_report, h]⟩
  · split
    · exact ⟨slots, h⟩
    · split
      · refine ⟨slots, ?_⟩
        unfold State.refund
        split
        · exact h
        · rw [State.core_setDemand, h]
      · refine ⟨(((s.credit g.flow j).arb e).progress n g j).slots, ?_⟩
        rw [State.progress, State.core_setDemand, State.core_setArb, if_pos rfl]
        rfl

theorem State.core_cancelAll (s : State) (e : TargetPort) (cancels : Bool) :
    ∃ slots, (s.cancelAll e cancels).core e = { s.core e with slots := slots } := by
  obtain ⟨slots, h⟩ := s.core_retire e (s.arb e).busy
  refine ⟨slots, ?_⟩
  rw [State.cancelAll, State.clearBacklogs, State.core_withHeld, State.core_hand, h]

theorem State.core_issue (s : State) (e : TargetPort) (f : Flow) (n : Slot) (g : Nat) :
    ∃ slots, (s.issue e f n g).core e =
      { s.core e with slots := slots, budget := (s.core e).budget - g, granted := (s.core e).granted + g } := by
  refine ⟨((s.arb e).issue f (s.flow f).view.urgency n g).slots, ?_⟩
  rw [State.issue, State.core_hand, State.core_setDemand, State.core_setArb, if_pos rfl]
  rfl

/-- The budget renewed and the tally sent (R29, R30). -/
theorem State.core_close (s : State) (e : TargetPort) :
    ((s.renewBudget e).sendTally e).core e =
      { s.core e with
        budget := (s.core e).view.capacity, granted := 0, tallies := (s.core e).tallies ++ [(s.renewBudget e).tallyOf e] } := by
  have hb : (s.renewBudget e).core e = { s.core e with budget := (s.core e).view.capacity, granted := 0 } := by
    rw [State.renewBudget, State.core_setArb, if_pos rfl]
    rfl
  have ht : ∀ (u : State) (l : List Tally), (u.setArb e { u.arb e with tallies := (u.arb e).tallies ++ l }).core e =
      { u.core e with tallies := (u.core e).tallies ++ l } := by
    intro u l
    rw [State.core_setArb, if_pos rfl]
    rfl
  rw [State.sendTally, State.core_withHeld, ht, hb]

theorem State.core_enqueueTally (s : State) (x : Tally) : (s.enqueueTally x).core k = s.core k := by
  unfold State.enqueueTally
  split
  · rw [State.core_report]; exact State.core_congr (State.withRate_arb ..)
  · exact State.core_congr (State.withRate_arb ..)

/-- What a row other than the power-on reset makes of an arbiter's core. -/
inductive CoreMoves (c : Instr) (k : TargetPort) (a : ArbiterCore) : ArbiterCore → Prop
  | kept : CoreMoves c k a a
  | closed (hc : c = .arbiterEpochExpiry k) (slots : Table GrantSlot 8) (u : State) :
    CoreMoves c k a { a with slots := slots, budget := a.view.capacity, granted := 0, tallies := a.tallies ++ [u.tallyOf k] }
  | sent (x : Tally) (rest : List Tally) (h : a.tallies = x :: rest) : CoreMoves c k a { a with tallies := rest }
  | retired (slots : Table GrantSlot 8) : CoreMoves c k a { a with slots := slots }
  | issued (slots : Table GrantSlot 8) (g : Nat) (h : g ≤ a.budget) :
    CoreMoves c k a { a with slots := slots, budget := a.budget - g, granted := a.granted + g }
  | configured (hc : c = .portRequest) (v : PortView) :
    CoreMoves c k a
      { a with
        view := v
        budget := if v.capacity = a.view.capacity then a.budget else min a.budget (v.capacity - a.granted) }

theorem coreMoves_of_moves (h : Moves s c t) (hc : c ≠ .powerOnReset) (k : TargetPort) :
    CoreMoves c k (s.core k) (t.core k) := by
  cases hk : dealsAt c k with
  | false => rw [core_of_moves h hc hk]; exact .kept
  | true =>
    cases h with
    | expiryTaken _ e =>
      obtain rfl : k = e := by simpa [dealsAt] using hk
      obtain ⟨slots, hage⟩ := (s.setArb k { s.arb k with expiries := (s.arb k).expiries - 1 }).core_age k
      rw [State.core_setArb, if_pos rfl] at hage
      rw [State.core_close, hage]
      exact .closed rfl slots _
    | tallyArrived _ e x rest hx =>
      obtain rfl : k = e := by simpa [dealsAt] using hk
      rw [State.core_enqueueTally, State.core_setArb, if_pos rfl]
      exact .sent x rest hx
    | completed _ e tag j endMark rest g =>
      obtain rfl : k = e := by simpa [dealsAt] using hk
      obtain ⟨slots, hs⟩ := (s.popArbiter k rest).core_complete k tag.slot g j endMark
      rw [hs, State.popArbiter, State.core_setArb, if_pos rfl]
      exact .retired slots
    | doneLate _ e tag j endMark rest =>
      rw [State.core_report, State.core_popArbiter]
      exact .kept
    | shutdownTaken _ e cancels rest =>
      obtain rfl : k = e := by simpa [dealsAt] using hk
      obtain ⟨slots, hs⟩ := (s.setArb k { s.arb k with shutdowns := rest }).core_cancelAll k cancels
      rw [hs, State.core_setArb, if_pos rfl]
      exact .retired slots
    | grantIssued _ e f n =>
      obtain rfl : k = e := by simpa [dealsAt] using hk
      obtain ⟨slots, hs⟩ := s.core_issue k f n (s.grantSize k f)
      rw [hs]
      exact .issued slots _ (Nat.le_trans (Nat.min_le_right _ _) (Nat.min_le_right _ _))
    | requestTaken j q rest =>
      cases q with
      | port e v =>
        show CoreMoves _ k _ (((s.setArb e ((s.arb e).reconfigure v))).core k)
        rw [State.core_setArb]
        split
        · next hke => subst hke; exact .configured rfl v
        · exact .kept
      | _ => cases hk
    | same => exact .kept
    | powerOn => exact absurd rfl hc
    | recordPassed _ _ hh => rw [core_passedRecord hh]; exact .kept
    | commandTaken _ hh => cases c <;> simp [takesCommands, dealsAt] at hh hk
    | _ => cases hk

/-! ## Budgets (R29) -/

/-- The budget of an arbiter is in order. -/
def ArbiterCore.BudgetOk (a : ArbiterCore) : Prop := a.budget = 0 ∨ a.granted + a.budget ≤ a.view.capacity

theorem CoreMoves.budgetOk {a b : ArbiterCore} (h : CoreMoves c k a b) (ha : a.BudgetOk) : b.BudgetOk := by
  unfold ArbiterCore.BudgetOk at *
  cases h with
  | kept => exact ha
  | closed => exact .inr (by simp)
  | sent => exact ha
  | retired => exact ha
  | issued slots g hg => dsimp only; omega
  | configured hc v => dsimp only; split <;> omega

/-- But for the close, cells granted and budget left do not rise together; and but for a change of the port's fields they stay. -/
theorem CoreMoves.sum {a b : ArbiterCore} (h : CoreMoves c k a b) (hc : c ≠ .arbiterEpochExpiry k) :
    b.granted + b.budget ≤ a.granted + a.budget ∧ (c ≠ .portRequest → b.granted + b.budget = a.granted + a.budget) := by
  cases h with
  | kept => exact ⟨Nat.le_refl _, fun _ => rfl⟩
  | closed h => exact absurd h hc
  | sent => exact ⟨Nat.le_refl _, fun _ => rfl⟩
  | retired => exact ⟨Nat.le_refl _, fun _ => rfl⟩
  | issued slots g hg => dsimp only; omega
  | configured h v => exact ⟨by dsimp only; split <;> omega, fun hn => absurd h hn⟩

theorem budgetsOk_of_moves (h : Moves s c t) (hs : BudgetsOk s) : BudgetsOk t := by
  by_cases hc : c = .powerOnReset
  · obtain rfl | rfl := moves_powerOn h hc
    · exact fun e => .inr (by simp [State.powerOn, State.reset, State.arb, powerOnArbiter, portViewOf, powerOnPort])
    · exact hs
  · exact fun e => (coreMoves_of_moves h hc e).budgetOk (hs e)

/-! ## Tallies (R30, R32, R33) -/

theorem tallyOk_tallyOf (s : State) (e : TargetPort) : TallyOk (s.tallyOf e) := by
  have hsorted : ((List.finRange 96).filter (s.holds e)).Pairwise (· < ·) :=
    (List.pairwise_lt_finRange 96).sublist List.filter_sublist
  rw [TallyOk, State.tallyOf, List.map_map, List.pairwise_map]
  exact hsorted

/-- The merged entry of a flow is of that flow. -/
theorem flow_of_mergedEntry {x y : Tally} {f : Flow} {z : TallyEntry} (h : mergedEntry x y f = some z) : z.flow = f := by
  have found : ∀ {x : Tally} {z : TallyEntry}, x.entryOf f = some z → z.flow = f := fun h => by
    simpa using List.find?_some h
  unfold mergedEntry at h
  split at h
  · next hx hy =>
    obtain rfl := Option.some.inj h
    exact (found hy : TallyEntry.flow _ = f)
  · next hx hy => obtain rfl := Option.some.inj h; exact found hx
  · exact found h

theorem tallyOk_merge (x y : Tally) : TallyOk (x.merge y) := by
  rw [TallyOk, Tally.merge, List.pairwise_map]
  refine List.Pairwise.filterMap _ (fun f g hfg a ha b hb => ?_) (List.pairwise_lt_finRange 96)
  rw [flow_of_mergedEntry ha, flow_of_mergedEntry hb]
  exact hfg

theorem mergeInto_ports (x : Tally) (l : List Tally) : (mergeInto x l).map (·.port.val) = l.map (·.port.val) := by
  induction l with
  | nil => rfl
  | cons y l ih =>
    unfold mergeInto
    split
    · rfl
    · rw [List.map_cons, List.map_cons, ih]

theorem tallyOk_mergeInto (x : Tally) {l : List Tally} (h : ∀ y ∈ l, TallyOk y) : ∀ y ∈ mergeInto x l, TallyOk y := by
  induction l with
  | nil => exact h
  | cons z l ih =>
    unfold mergeInto
    obtain ⟨hz, hl⟩ := List.forall_mem_cons.1 h
    split
    · exact List.forall_mem_cons.2 ⟨tallyOk_merge z x, hl⟩
    · exact List.forall_mem_cons.2 ⟨hz, ih hl⟩

/-- The Rate Engine's queue is in order. -/
def QueueOk (l : List Tally) : Prop := (l.map fun t => t.port.val).Nodup ∧ ∀ t ∈ l, TallyOk t

theorem queueOk_enqueueTally {x : Tally} (hx : TallyOk x) (h : QueueOk s.rate.queue) :
    QueueOk (s.enqueueTally x).rate.queue := by
  obtain ⟨hports, hok⟩ := h
  unfold State.enqueueTally
  split
  · refine ⟨?_, tallyOk_mergeInto x hok⟩
    show ((mergeInto x s.rate.queue).map fun t => t.port.val).Nodup
    rwa [mergeInto_ports]
  · next hn =>
    refine ⟨?_, fun y hy => ?_⟩
    · simp only [State.withRate_rate, List.map_append, List.map_cons, List.map_nil]
      refine List.Nodup.append hports (List.nodup_singleton _) ?_
      rw [List.disjoint_singleton]
      intro hmem
      obtain ⟨y, hy, hport⟩ := List.mem_map.1 hmem
      exact hn (List.any_eq_true.2 ⟨y, hy, by simpa using Fin.ext hport⟩)
    · obtain hy | hy := List.mem_append.1 hy
      · exact hok y hy
      · obtain rfl := List.mem_singleton.1 hy; exact hx

theorem QueueOk.tail {x : Tally} {l : List Tally} (h : QueueOk (x :: l)) : QueueOk l :=
  ⟨(List.nodup_cons.1 h.1).2, fun y hy => h.2 y (.tail _ hy)⟩

/-- The tallies on their way from an arbiter are in order. -/
def ArbiterCore.TalliesOk (k : TargetPort) (a : ArbiterCore) : Prop := ∀ t ∈ a.tallies, TallyOk t ∧ t.port = k

theorem CoreMoves.talliesOk {a b : ArbiterCore} (h : CoreMoves c k a b) (ha : a.TalliesOk k) : b.TalliesOk k := by
  cases h with
  | kept => exact ha
  | closed hc slots u =>
    intro x hx
    obtain hx | hx := List.mem_append.1 hx
    · exact ha x hx
    · obtain rfl := List.mem_singleton.1 hx; exact ⟨tallyOk_tallyOf u k, rfl⟩
  | sent x rest hl => exact fun y hy => ha y (hl ▸ .tail _ hy)
  | retired => exact ha
  | issued => exact ha
  | configured => exact ha

theorem queueOk_of_moves (h : Moves s c t) (hc : c ≠ .powerOnReset) (harb : ∀ e, (s.core e).TalliesOk e)
    (hs : QueueOk s.rate.queue) : QueueOk t.rate.queue := by
  have hframe := moves_changesOnly h hc
  have outside : .tallyQueue ∉ reach c → QueueOk t.rate.queue := fun hn => by rw [hframe _ hn]; exact hs
  cases h with
  | powerOn => exact absurd rfl hc
  | same => exact hs
  | tallyArrived _ e x rest hx =>
    have := (harb e) x (show x ∈ (s.arb e).tallies from hx ▸ .head _)
    exact queueOk_enqueueTally (s := s.setArb e { s.arb e with tallies := rest }) this.1 hs
  | tallyDiscarded _ x rest hx => rw [hx] at hs; exact hs.tail
  | tallyComputed _ x rest hx => rw [hx] at hs; exact hs.tail
  | commandTaken _ htakes =>
    exact outside (by cases c <;> simp [takesCommands, reach, executorParts, allArbiters] at htakes ⊢)
  | requestTaken j q => exact outside (by cases q <;> simp [Request.row, reach, executorParts, allHeld, allArbiters,
    allRateFlows, allMonitors])
  | recordPassed _ _ hh => exact outside (by simp [reach_of_handler hh, allArbiters, allMonitors])
  | faultTaken _ src | posted _ src => exact outside (by cases src <;> simp [reach, sourcePart])
  | _ => exact outside (by simp [reach, allHeld, allArbiters, allMonitors, allWaiting])

theorem talliesOk_iff : TalliesOk s ↔ QueueOk s.rate.queue ∧ ∀ e, (s.core e).TalliesOk e := by
  rw [TalliesOk, QueueOk, and_assoc]
  rfl

theorem talliesOk_of_moves (h : Moves s c t) (hs : TalliesOk s) : TalliesOk t := by
  by_cases hc : c = .powerOnReset
  · obtain rfl | rfl := moves_powerOn h hc
    · refine ⟨List.nodup_nil, fun x hx => absurd hx List.not_mem_nil, fun e x hx => ?_⟩
      simp [State.powerOn, State.reset, State.arb, powerOnArbiter] at hx
    · exact hs
  rw [talliesOk_iff] at hs ⊢
  exact ⟨queueOk_of_moves h hc hs.2 hs.1, fun e => (coreMoves_of_moves h hc e).talliesOk (hs.2 e)⟩

/-! ## The fault table (R161, R163) -/

/-- A fault table in order. -/
def TableOk (x : Table (Option FaultRecord) 8) : Prop :=
  (∀ i, ∀ y ∈ Table.get x i, 1 ≤ y.count ∧ y.count ≤ 255) ∧
  ∀ i k, ∀ y ∈ Table.get x i, ∀ z ∈ Table.get x k, y.key = z.key → i = k

/-- One record of a table in order is replaced by one whose key no other record has. -/
theorem TableOk.put {x : Table (Option FaultRecord) 8} (h : TableOk x) (i : FaultIx) (y : Option FaultRecord)
    (hcount : ∀ z ∈ y, 1 ≤ z.count ∧ z.count ≤ 255)
    (hkey : ∀ z ∈ y, ∀ k, k ≠ i → ∀ w ∈ Table.get x k, w.key ≠ z.key) : TableOk (Table.put x i y) := by
  obtain ⟨hc, hk⟩ := h
  refine ⟨fun j => ?_, fun j k => ?_⟩
  · rw [Table.get_put]
    split
    · exact hcount
    · exact hc j
  · rw [Table.get_put, Table.get_put]
    split <;> rename_i hj <;> split <;> rename_i hk'
    · exact fun _ _ _ _ _ => hj.trans hk'.symm
    · exact fun z hz w hw he => absurd he.symm (hkey z hz k hk' w hw)
    · exact fun w hw z hz he => absurd he (hkey z hz j hj w hw)
    · exact hk j k

theorem tableOk_empty : TableOk (Table.const 8 none) :=
  ⟨fun i y hy => by simp at hy, fun i k y hy => by simp at hy⟩

theorem tableOk_takeReport (r : FaultReport) (h : TableOk s.unit.table) : TableOk (s.takeReport r).unit.table := by
  have pending : ∀ (u : State) (d : Cause), (u.addPendingBoth d).unit.table = u.unit.table := fun u d =>
    changesOnly_addPendingBoth (A := [.causes .a, .causes .b]) (by simp) (by simp) .faultTable (by simp)
  unfold State.takeReport
  split
  · next i hi =>
    refine h.put i _ (fun z hz => ?_) fun z hz k hne w hw => ?_
    · obtain ⟨y, hy, rfl⟩ := Option.map_eq_some_iff.1 hz
      have := h.1 i y hy
      simp only [FaultRecord.coalesce, Config.repeatMax]
      omega
    · obtain ⟨y, hy, rfl⟩ := Option.map_eq_some_iff.1 hz
      exact fun he => hne (h.2 k i w hw y hy he)
  · next hnone =>
    split
    · next i hi =>
      rw [pending]
      refine h.put i _ (fun z hz => ?_) fun z hz k _ w hw => ?_
      · obtain rfl := Option.some.inj hz; simp
      · obtain rfl := Option.some.inj hz
        have := List.find?_eq_none.1 hnone k (List.mem_finRange k)
        rw [Option.mem_def.1 hw] at this
        simpa using this
    · split
      · exact h
      · rw [pending]; exact h

theorem faultTableOk_of_moves (h : Moves s c t) (hs : FaultTableOk s) : FaultTableOk t := by
  by_cases hc : c = .powerOnReset
  · obtain rfl | rfl := moves_powerOn h hc
    · exact tableOk_empty
    · exact hs
  have hframe := moves_changesOnly h hc
  have outside : .faultTable ∉ reach c → FaultTableOk t := fun hn => by
    have ht : t.unit.table = s.unit.table := hframe _ hn
    rw [FaultTableOk, ht]
    exact hs
  cases h with
  | powerOn => exact absurd rfl hc
  | same => exact hs
  | faultTaken _ src r rest =>
    refine tableOk_takeReport r ?_
    rw [State.setReports_unit]
    exact hs
  | @commandTaken _ _ htakes p r hn =>
    have ht : ((s.takeFrom p).beginRecord p r).unit.table = s.unit.table :=
      changesOnly_take s p r .faultTable (by simp [takingParts])
    rw [FaultTableOk, ht]
    exact hs
  | requestTaken j q rest =>
    cases q with
    | faultClear i => exact TableOk.put hs i none (by simp) (by simp)
    | faultClearAll => exact tableOk_empty
    | _ => exact outside (by simp [Request.row, reach, executorParts, allHeld, allArbiters, allRateFlows, allMonitors])
  | recordPassed _ _ hh => exact outside (by simp [reach_of_handler hh, allArbiters, allMonitors])
  | posted _ src => exact outside (by cases src <;> simp [reach, sourcePart])
  | _ => exact outside (by simp [reach, allHeld, allArbiters, allMonitors, allWaiting, allRateFlows])

end Sys2Proof.Machine
end

section
/-! PROOFS. The fabric link and the lines of the monitors to it: a part of O54. -/

namespace Sys2Proof.Machine

open Sys2Proof.Safety

variable {s t u : State} {c : Instr} {e k : TargetPort}

/-! ## A monitor's line (R117) -/

/-- What a monitor has of the link: its messages, the link state it holds, and its port's enable. -/
structure Line where
  inbox : List MonitorMsg
  linkUp : Bool
  enable : Bool

/-- The line of a monitor. -/
def Monitor.line (m : Monitor) : Line := { inbox := m.inbox, linkUp := m.linkUp, enable := m.enable }

/-- The line of a port's monitor in a state. -/
def State.line (s : State) (e : TargetPort) : Line := (s.mon e).line

/-- A line in order, by whether the link is UP. -/
structure Line.Ok (l : Line) (up : Bool) : Prop where
  taken : up = true → MonitorMsg.linkLoss ∉ l.inbox
  owed : up = false → (l.inbox = [] ∧ l.linkUp = false) ∨ l.inbox.getLast? = some .linkLoss
  enabled : l.enable = true → l.linkUp = true

/-- The line of a monitor that has taken a message from its inbox (R107, R117). -/
def Line.take (l : Line) : MonitorMsg → Line
  | .status true _ => { l with linkUp := true }
  | .status false _ => if l.linkUp then { l with linkUp := false, enable := false } else l
  | .linkLoss => if l.linkUp then { l with linkUp := false, enable := false } else l

theorem State.line_setMon (s : State) (e k : TargetPort) (x : Monitor) :
    (s.setMon e x).line k = if k = e then x.line else s.line k := by
  rw [State.line, State.setMon_mon]
  split <;> rfl

theorem State.line_congr (h : t.mon k = s.mon k) : t.line k = s.line k := congrArg Monitor.line h

/-- A write of a monitor that leaves its line. -/
theorem State.line_setMon_of_line {x : Monitor} (h : x.line = s.line e) : (s.setMon e x).line k = s.line k := by
  rw [State.line_setMon]
  split
  · next hk => rw [h, hk]
  · rfl

theorem State.line_setReports (s : State) (src : Source) (x : List FaultReport) : (s.setReports src x).line k = s.line k := by
  cases src with
  | monitor e => exact State.line_setMon_of_line rfl
  | _ => rfl

theorem State.line_setPosts (s : State) (src : Source) (x : List Posting) : (s.setPosts src x).line k = s.line k := by
  cases src with
  | monitor e => exact State.line_setMon_of_line rfl
  | _ => rfl

theorem State.line_shutdown (s : State) (e : TargetPort) (b : Bool) :
    (s.shutdown e b).line k = if k = e then { s.line e with linkUp := false, enable := false } else s.line k := by
  rw [State.shutdown, State.post, State.line_setPosts, State.report, State.line_setReports,
    State.line_congr (State.setArb_mon ..), State.line_setMon]
  rfl

/-- A message taken at a monitor. -/
theorem State.line_takeMessage (s : State) (e : TargetPort) (m : MonitorMsg) :
    (s.takeMessage e m).line k = if k = e then (s.line e).take m else s.line k := by
  have shut : ∀ b, ((if (s.mon e).linkUp then s.shutdown e b else s).line k) =
      if k = e then (if (s.line e).linkUp then { s.line e with linkUp := false, enable := false } else s.line e)
      else s.line k := by
    intro b
    have hup : (s.line e).linkUp = (s.mon e).linkUp := rfl
    rw [hup]
    split
    · exact s.line_shutdown e b
    · split
      · next hk => rw [hk]
      · rfl
  cases m with
  | linkLoss => exact shut false
  | status up level =>
    cases up with
    | false => exact shut true
    | true =>
      simp only [State.takeMessage, State.takeStatus, State.statusUp, if_true]
      split
      · rw [State.post, State.line_setPosts, State.line_setMon]; rfl
      · rw [State.line_setMon]; rfl

theorem State.line_popMonitor (s : State) (e : TargetPort) (rest : List MonitorMsg) :
    (s.popMonitor e rest).line k = if k = e then { s.line e with inbox := rest } else s.line k := by
  rw [State.popMonitor, State.line_setMon]; rfl

/-- The line of a monitor that takes its messages one by one. -/
def Line.takeAll : List MonitorMsg → Line → Line
  | [], l => l
  | m :: rest, l => takeAll rest (Line.take { l with inbox := rest } m)

theorem Line.take_inbox (l : Line) (m : MonitorMsg) : (l.take m).inbox = l.inbox := by
  unfold Line.take
  split <;> first | rfl | (split <;> rfl)

theorem Line.take_linkLoss (l : Line) : (l.take .linkLoss).linkUp = false := by
  unfold Line.take
  dsimp only
  split
  · rfl
  · next h => simpa using h

theorem Line.take_enabled {l : Line} (h : l.enable = true → l.linkUp = true) (m : MonitorMsg) :
    (l.take m).enable = true → (l.take m).linkUp = true := by
  unfold Line.take
  split
  · exact fun _ => rfl
  · split
    · exact fun h => h
    · exact h
  · split
    · exact fun h => h
    · exact h

/-- A line with nothing to take, whose monitor holds its link DOWN and its port disabled. -/
structure Line.Settled (l : Line) : Prop where
  inbox : l.inbox = []
  linkUp : l.linkUp = false
  enable : l.enable = false

theorem Line.Settled.ok {l : Line} (h : l.Settled) (up : Bool) : l.Ok up :=
  ⟨fun _ => by simp [h.inbox], fun _ => .inl ⟨h.inbox, h.linkUp⟩, fun he => by rw [h.enable] at he; cases he⟩

/-- A monitor whose inbox ends in a link-loss request takes all of it, and then holds its link DOWN. -/
theorem State.line_takeThroughLoss (e : TargetPort) (l : List MonitorMsg) (u : State) (hl : (u.line e).inbox = l)
    (hok : (u.line e).Ok false) :
    ((State.takeThroughLoss e l u).line e).Settled ∧ ∀ k, k ≠ e → (State.takeThroughLoss e l u).line k = u.line k := by
  induction l generalizing u with
  | nil =>
    have hdown : (u.line e).linkUp = false :=
      (hok.owed rfl).elim And.right fun h => by rw [hl] at h; cases h
    refine ⟨⟨hl, hdown, ?_⟩, fun _ _ => rfl⟩
    by_contra he
    rw [Bool.not_eq_false] at he
    exact absurd (hok.enabled he) (by simp [hdown])
  | cons m rest ih =>
    have hlast : (m :: rest).getLast? = some .linkLoss :=
      (hok.owed rfl).elim (fun h => by rw [hl] at h; cases h.1) fun h => hl ▸ h
    have hmem : MonitorMsg.linkLoss ∈ m :: rest := List.mem_of_getLast? hlast
    rw [State.takeThroughLoss, if_pos (by simpa using hmem)]
    have hself : ((u.popMonitor e rest).takeMessage e m).line e = ({ u.line e with inbox := rest } : Line).take m := by
      rw [State.line_takeMessage, if_pos rfl, State.line_popMonitor, if_pos rfl]
    have hother : ∀ k, k ≠ e → ((u.popMonitor e rest).takeMessage e m).line k = u.line k := fun k hk => by
      rw [State.line_takeMessage, if_neg hk, State.line_popMonitor, if_neg hk]
    have hinbox : (((u.popMonitor e rest).takeMessage e m).line e).inbox = rest := by rw [hself, Line.take_inbox]
    have hdown : (((u.popMonitor e rest).takeMessage e m).line e).Ok false := by
      refine ⟨nofun, fun _ => ?_, hself ▸ Line.take_enabled (l := { u.line e with inbox := rest }) hok.enabled m⟩
      rw [hinbox]
      cases rest with
      | nil =>
        obtain rfl : m = .linkLoss := by simpa using hlast
        refine .inl ⟨rfl, ?_⟩
        rw [hself]
        exact Line.take_linkLoss _
      | cons y rest => exact .inr (by simpa using hlast)
    obtain ⟨hsettled, hkept⟩ := ih _ hinbox hdown
    exact ⟨hsettled, fun k hk => (hkept k hk).trans (hother k hk)⟩

/-- Before the link comes UP every monitor takes what it has of it, and holds its link DOWN (R117, log entry 28). -/
theorem State.line_takeLosses (h : ∀ k, (s.line k).Ok false) (e : TargetPort) : (s.takeLosses.line e).Settled := by
  have fold : ∀ (l : List TargetPort) (u : State), (∀ k, (u.line k).Ok false) → ∀ k, k ∈ l ∨ (u.line k).Settled →
      ((l.foldl (fun u e => State.takeThroughLoss e (u.mon e).inbox u) u).line k).Settled := by
    intro l
    induction l with
    | nil => exact fun u _ k hk => hk.resolve_left List.not_mem_nil
    | cons e l ih =>
      intro u hu k hk
      obtain ⟨hsettled, hkept⟩ := State.line_takeThroughLoss e (u.mon e).inbox u rfl (hu e)
      refine ih _ (fun k => ?_) k ?_
      · by_cases he : k = e
        · rw [he]; exact hsettled.ok false
        · rw [hkept k he]; exact hu k
      · by_cases he : k = e
        · rw [he]; exact .inr hsettled
        · rw [hkept k he]
          exact hk.imp_left fun hm => (List.mem_cons.1 hm).resolve_left he
  exact fold _ s h e (.inl (List.mem_finRange e))

/-! ## The link and what waits at it (R170) -/

/-- The Link Interface's counts and what waits at it, with the two lines that keep the link DOWN. -/
structure Wire where
  up : Bool
  failCount : Nat
  goodCount : Nat
  laneLock : Bool
  held : Bool
  waiting : TargetPort → List OutRecord

/-- The wire in a state. -/
def wireOf (s : State) : Wire :=
  { up := s.link.up, failCount := s.link.failCount, goodCount := s.link.goodCount, laneLock := s.link.laneLock
    held := s.resetLow, waiting := Table.get s.link.waiting }

/-- A wire in order. -/
structure Wire.Ok (w : Wire) : Prop where
  fail : w.failCount ≤ 7
  good : w.goodCount ≤ 3
  up : w.up = true → w.goodCount = 0
  down : w.up = false → w.failCount = 0 ∧ ∀ e, w.waiting e = []
  cut : w.laneLock = false ∨ w.held = true → w.up = false ∧ w.goodCount = 0

theorem linkOk_iff : LinkOk s ↔ (wireOf s).Ok ∧ ∀ e, (s.line e).Ok s.link.up := by
  constructor
  · rintro ⟨hf, hg, hu, hd, hc, ht, ho, he⟩
    exact ⟨⟨hf, hg, hu, hd, hc⟩, fun e => ⟨fun h => ht h e, fun h => ho h e, he e⟩⟩
  · rintro ⟨⟨hf, hg, hu, hd, hc⟩, hl⟩
    exact ⟨hf, hg, hu, hd, hc, fun h e => (hl e).taken h, fun h e => (hl e).owed h, fun e => (hl e).enabled⟩

variable {w w' : Wire}

/-- Records that wait while the link is UP. -/
theorem Wire.Ok.of_waiting (h : w.Ok) (x : TargetPort → List OutRecord) (hx : w.up = false → x = w.waiting) :
    Wire.Ok { w with waiting := x } :=
  ⟨h.fail, h.good, h.up, fun hd => ⟨(h.down hd).1, by rw [hx hd]; exact (h.down hd).2⟩, h.cut⟩

/-! ## Steps -/

/-- Rows that deal with a monitor's line. -/
def dealsLine (c : Instr) (k : TargetPort) : Bool :=
  match c with
  | .laneLockLoss | .recordCheckFailure _ | .unknownKindRecord _ | .backlog _ | .done _ | .tstatRoute _ | .monitorRequest => true
  | .tstat e | .linkLossRequest e => k == e
  | _ => false

theorem line_of_moves (h : Moves s c t) (hc : c ≠ .powerOnReset) (hk : dealsLine c k = false) : t.line k = s.line k := by
  have hframe := moves_changesOnly h hc
  have outside : .monitor k ∉ reach c → t.line k = s.line k := fun hn => State.line_congr (hframe _ hn)
  cases h with
  | powerOn => exact absurd rfl hc
  | same => rfl
  | recordPassed _ _ hh => cases c <;> cases hh <;> cases hk
  | lockLostInReset | lockLostUp | lockLostDown | recordFailed => cases hk
  | statusTaken _ e | lossTaken _ e =>
    have hne : k ≠ e := beq_eq_false_iff_ne.1 hk
    exact outside (by simpa [reach] using hne)
  | @commandTaken _ _ _ p r =>
    have hm : ((s.takeFrom p).beginRecord p r).mon k = s.mon k := changesOnly_take s p r (.monitor k) (by simp [takingParts])
    exact State.line_congr hm
  | faultTaken _ src r rest =>
    have taken : ∀ u : State, (u.takeReport r).line k = u.line k := fun u => State.line_congr
      (changesOnly_takeReport (A := [.faultTable, .overflow, .causes .a, .causes .b]) (by simp) (by simp) (by simp) (by simp)
        (.monitor k) (by simp))
    rw [taken, State.line_setReports]
  | posted _ src p x =>
    have taken : ∀ u : State, (u.takePosting x).line k = u.line k := fun u => State.line_congr
      (changesOnly_takePosting (A := [.causes .a, .causes .b]) (by simp) (by simp) (.monitor k) (by simp))
    rw [taken, State.line_setPosts]
  | requestTaken j q rest =>
    have hserve := changesOnly_serve s { j with todo := rest } q
    cases q with
    | monitor => cases hk
    | tripClear e =>
      dsimp only [State.serve]
      split
      · rfl
      · exact State.line_setMon_of_line rfl
    | _ => exact State.line_congr (hserve (.monitor k) (by simp [requestParts, allRateFlows]))
  | _ => exact outside (by simp [reach, allHeld, allArbiters, allRateFlows])

/-- The parts that a wire is made of. -/
def wireParts : List Part := .linkState :: .laneLock :: .resetLine :: allWaiting

theorem wireOf_of_changesOnly {A : List Part} (h : changesOnly s t A) (hA : ∀ p ∈ wireParts, p ∉ A) : wireOf t = wireOf s := by
  have hs : Part.same .linkState s t := h _ (hA _ (by simp [wireParts]))
  have hl : Part.same .laneLock s t := h _ (hA _ (by simp [wireParts]))
  have hr : Part.same .resetLine s t := h _ (hA _ (by simp [wireParts]))
  have hw : ∀ e, Part.same (.waiting e) s t := fun e => h _ (hA _ (by simp [wireParts, allWaiting]))
  obtain ⟨hup, hfail, hgood⟩ := hs
  have hlock : t.link.laneLock = s.link.laneLock := hl
  have hreset : t.resetLow = s.resetLow := hr
  have hwaiting : Table.get t.link.waiting = Table.get s.link.waiting := funext hw
  rw [wireOf, hup, hfail, hgood, hlock, hreset, hwaiting]
  rfl

/-- The link in order, and what holds as it comes UP. -/
def LinkKept (s t : State) : Prop :=
  LinkOk t ∧ (s.link.up = false → t.link.up = true → ∀ e, (t.mon e).linkUp = false ∧ (t.mon e).enable = false)

/-- A step that does not bring the link UP. -/
theorem linkKept_of (hw : (wireOf t).Ok) (hl : ∀ e, (t.line e).Ok t.link.up) (hu : t.link.up = true → s.link.up = true) :
    LinkKept s t :=
  ⟨linkOk_iff.2 ⟨hw, hl⟩, fun hd ht => absurd (hu ht) (by simp [hd])⟩

/-- The link goes DOWN (R170, R117). -/
theorem linkKept_linkDown : LinkKept s u.linkDown := by
  refine linkKept_of ⟨Nat.zero_le _, Nat.zero_le _, fun _ => rfl, fun _ => ⟨rfl, fun e => u.linkDown_waiting e⟩,
    fun _ => ⟨rfl, rfl⟩⟩
    (fun e => ?_) (fun h => by cases h)
  have hline : u.linkDown.line e = { u.line e with enable := false, inbox := (u.line e).inbox ++ [.linkLoss] } := by
    rw [State.line, State.linkDown_mon]; rfl
  rw [hline]
  exact ⟨nofun, fun _ => .inr (by simp), nofun⟩

/-- Records are handed on only while the link is UP. -/
theorem State.link_hand_of_down (h : s.link.up = false) (hu : u.link = s.link) (e : TargetPort) (rs : List OutRecord) :
    (u.hand e rs).link = s.link := by
  rw [State.hand, if_neg (by rw [hu, h]; nofun), hu]

theorem State.link_drainSets (s : State) (tags : List GrantTag) : (s.drainSets tags).link = s.link := by
  obtain ⟨m, x, hd⟩ := s.drainSets_eq tags
  rw [hd]; rfl

theorem State.link_age_of_down (h : s.link.up = false) (e : TargetPort) : (s.age e).link = s.link := by
  unfold State.age
  dsimp only
  rw [State.link_drainSets]
  show (State.hand _ e _).link = s.link
  exact State.link_hand_of_down h (by rfl) e _

theorem State.link_cancelAll_of_down (h : s.link.up = false) (e : TargetPort) (b : Bool) : (s.cancelAll e b).link = s.link := by
  rw [State.cancelAll, State.clearBacklogs, State.withHeld_link]
  exact State.link_hand_of_down h (by rfl) e _

theorem State.link_issue_of_down (h : s.link.up = false) (e : TargetPort) (f : Flow) (n : Slot) (g : Nat) :
    (s.issue e f n g).link = s.link := by
  unfold State.issue
  show (State.hand _ e _).link = s.link
  exact State.link_hand_of_down h (by rfl) e _

/-- An arbiter's own step, which hands records on only to an UP link. -/
theorem linkKept_of_handed {A : List Part} (hs : LinkOk s) (h : changesOnly s t A)
    (hA : .linkState ∉ A ∧ .laneLock ∉ A ∧ .resetLine ∉ A) (hline : ∀ e, t.line e = s.line e)
    (hdown : s.link.up = false → t.link = s.link) : LinkKept s t := by
  obtain ⟨hwire, hlines⟩ := linkOk_iff.1 hs
  obtain ⟨hstate, hlock, hreset⟩ := hA
  obtain ⟨hup, hfail, hgood⟩ : Part.same .linkState s t := h _ hstate
  have hl : t.link.laneLock = s.link.laneLock := h .laneLock hlock
  have hr : t.resetLow = s.resetLow := h .resetLine hreset
  have hw : wireOf t = { wireOf s with waiting := Table.get t.link.waiting } := by
    rw [wireOf, hup, hfail, hgood, hl, hr]; rfl
  refine linkKept_of ?_ (fun e => by rw [hline, hup]; exact hlines e) (fun hu => hup ▸ hu)
  rw [hw]
  exact hwire.of_waiting _ fun hd => by rw [hdown hd]; rfl

/-- A step that leaves the link and every line. -/
theorem linkKept_of_same (hs : LinkOk s) (hw : wireOf t = wireOf s) (hline : ∀ e, t.line e = s.line e) : LinkKept s t := by
  obtain ⟨hwire, hlines⟩ := linkOk_iff.1 hs
  have hup : t.link.up = s.link.up := congrArg Wire.up hw
  exact linkKept_of (hw ▸ hwire) (fun e => by rw [hline, hup]; exact hlines e) fun hu => hup ▸ hu

/-- A handled record may add a message that is no link-loss request to an UP link's monitor, and leaves the rest. -/
theorem line_handler {handle : State → State} (h : handlerOf c = some handle) (u : State) (e : TargetPort) :
    (handle u).line e = u.line e ∨
      ∃ up level, (handle u).line e = { u.line e with inbox := (u.line e).inbox ++ [.status up level] } := by
  cases c <;> cases h
  case unknownKindRecord => exact .inl rfl
  case backlog r =>
    refine .inl ?_
    dsimp only [State.takeBacklog, State.passBacklog]
    repeat' split
    all_goals rfl
  case done r =>
    refine .inl ?_
    unfold State.takeDone
    split <;> rfl
  case tstatRoute r =>
    simp only [State.takeTstat, State.line_setMon]
    split
    · next he => rw [he]; exact .inr ⟨_, _, rfl⟩
    · exact .inl rfl

theorem wireOf_handler {handle : State → State} (h : handlerOf c = some handle) (u : State) : wireOf (handle u) = wireOf u :=
  wireOf_of_changesOnly (changesOnly_handler h u) (by simp [wireParts, allWaiting, allArbiters, allMonitors])

/-- A handled record on an UP link. -/
theorem line_handler_ok {handle : State → State} (h : handlerOf c = some handle) {e : TargetPort} (hu : (u.line e).Ok true) :
    ((handle u).line e).Ok true := by
  obtain hl | ⟨up, level, hl⟩ := line_handler h u e <;> rw [hl]
  · exact hu
  · exact ⟨fun _ => by simpa using hu.taken rfl, nofun, hu.enabled⟩

theorem State.takeLosses_resetLow (s : State) : s.takeLosses.resetLow = s.resetLow := by
  obtain ⟨ms, as, ht, -⟩ := s.takeLosses_eq
  rw [ht]; rfl

/-- The state in which the fourth good record is handled. -/
def State.comesUp (s : State) : State :=
  s.takeLosses.withLink { s.takeLosses.link with up := true, failCount := 0, goodCount := 0 }

theorem State.comesUp_settled (hdown : s.link.up = false) (hs : ∀ e, (s.line e).Ok s.link.up) (e : TargetPort) :
    (s.comesUp.line e).Settled := by
  have hline : s.comesUp.line e = s.takeLosses.line e := State.line_congr (State.withLink_mon ..)
  rw [hline]
  exact State.line_takeLosses (fun e => hdown ▸ hs e) e

theorem State.comesUp_wire (s : State) :
    wireOf s.comesUp = { wireOf s with up := true, failCount := 0, goodCount := 0 } := by
  rw [wireOf, wireOf, State.comesUp, State.withLink_link, State.withLink_resetLow, State.takeLosses_resetLow,
    State.takeLosses_link]

/-- The fourth good record brings the link UP. -/
theorem linkKept_comesUp {handle : State → State} (h : handlerOf c = some handle) (hs : ∀ e, (s.line e).Ok s.link.up)
    (hdown : s.link.up = false) (high : ¬ (s.link.laneLock = false ∨ s.resetLow = true)) : LinkKept s (handle s.comesUp) := by
  have hw := (wireOf_handler h s.comesUp).trans s.comesUp_wire
  have hup : (handle s.comesUp).link.up = true := congrArg Wire.up hw
  have settled := State.comesUp_settled hdown hs
  refine ⟨linkOk_iff.2 ⟨?_, fun e => ?_⟩, fun _ _ e => ?_⟩
  · rw [hw]
    exact ⟨Nat.zero_le _, Nat.zero_le _, fun _ => rfl, nofun, fun hb => absurd hb high⟩
  · rw [hup]
    exact line_handler_ok h ((settled e).ok true)
  · show ((handle s.comesUp).line e).linkUp = false ∧ ((handle s.comesUp).line e).enable = false
    obtain ⟨-, hlink, henable⟩ := settled e
    obtain hl | ⟨up, level, hl⟩ := line_handler h s.comesUp e <;> rw [hl] <;> simp only [hlink, henable, and_self]

theorem linkKept_passedRecord {handle : State → State} (h : handlerOf c = some handle) (hlive : Live s)
    (hlock : s.link.laneLock = true) (hs : LinkOk s) : LinkKept s (s.passedRecord handle) := by
  obtain ⟨hwire, hlines⟩ := linkOk_iff.1 hs
  have high : ¬ (s.link.laneLock = false ∨ s.resetLow = true) := by simp [hlock, hlive]
  have handled : ∀ v : State, wireOf (handle v) = wireOf v := wireOf_handler h
  have hupAt : ∀ v : State, (handle v).link.up = v.link.up := fun v => congrArg Wire.up (handled v)
  obtain ⟨hup, hp⟩ | ⟨hdown, -, hp⟩ | ⟨hdown, hgood, hp⟩ := s.passedRecord_cases handle <;> rw [hp]
  · have hw : (wireOf (s.withLink { s.link with failCount := 0 })).Ok :=
      ⟨Nat.zero_le _, hwire.good, hwire.up, fun hd => absurd hup (by rw [show s.link.up = false from hd]; nofun),
          fun hb => absurd hb high⟩
    refine linkKept_of (by rw [handled]; exact hw) (fun e => ?_) fun _ => hup
    rw [hupAt, show (s.withLink { s.link with failCount := 0 }).link.up = true from hup]
    exact line_handler_ok h (hup ▸ hlines e)
  · exact linkKept_comesUp h hlines hdown high
  · have hw : (wireOf (s.withLink { s.link with goodCount := s.link.goodCount + 1 })).Ok :=
      ⟨hwire.fail, Nat.le_of_lt_succ hgood, fun hu => absurd (hdown.symm.trans hu) nofun,
        fun _ => hwire.down hdown, fun hb => absurd hb high⟩
    exact linkKept_of hw hlines fun hu => hu

/-- A monitor takes the oldest message of its inbox. -/
theorem line_popped {m : MonitorMsg} {rest : List MonitorMsg} (hi : (s.mon e).inbox = m :: rest)
    (hs : ∀ k, (s.line k).Ok s.link.up)
    (k : TargetPort) : (((s.popMonitor e rest).takeMessage e m).line k).Ok s.link.up := by
  rw [State.line_takeMessage, State.line_popMonitor, State.line_popMonitor, if_pos rfl]
  split
  · have hin : (s.line e).inbox = m :: rest := hi
    obtain ⟨htaken, howed, henabled⟩ := hs e
    rw [hin] at htaken howed
    refine ⟨fun hu => ?_, fun hd => ?_, Line.take_enabled (l := { s.line e with inbox := rest }) henabled m⟩
      <;> rw [Line.take_inbox]
    · exact fun hm => htaken hu (.tail _ hm)
    · have hlast := (howed hd).resolve_left fun h => by cases h.1
      cases rest with
      | nil =>
        obtain rfl : m = .linkLoss := by simpa using hlast
        exact .inl ⟨rfl, Line.take_linkLoss _⟩
      | cons y rest => exact .inr (by simpa using hlast)
  · exact hs k

theorem wireOf_takeMessage (s : State) (e : TargetPort) (m : MonitorMsg) (rest : List MonitorMsg) :
    wireOf ((s.popMonitor e rest).takeMessage e m) = wireOf s := by
  obtain ⟨x, a, -, ht⟩ := (s.popMonitor e rest).takeMessage_eq e m
  rw [ht]; rfl

theorem linkKept_popped {m : MonitorMsg} {rest : List MonitorMsg} (hi : (s.mon e).inbox = m :: rest) (hs : LinkOk s) :
    LinkKept s ((s.popMonitor e rest).takeMessage e m) := by
  obtain ⟨hwire, hlines⟩ := linkOk_iff.1 hs
  have hw := wireOf_takeMessage s e m rest
  have hup : ((s.popMonitor e rest).takeMessage e m).link.up = s.link.up := congrArg Wire.up hw
  exact linkKept_of (hw ▸ hwire) (fun k => hup ▸ line_popped hi hlines k) fun hu => hup ▸ hu

/-- A change of the Link Interface's own wire. -/
theorem linkKept_withLink (x : LinkInterface) (hs : LinkOk s) (hup : x.up = s.link.up) (hw : (wireOf (s.withLink x)).Ok) :
    LinkKept s (s.withLink x) := by
  refine linkKept_of hw (fun e => ?_) fun hu => hup ▸ hu
  show ((s.line e).Ok x.up)
  rw [hup]
  exact (linkOk_iff.1 hs).2 e

/-- A record that fails its check (R170). -/
theorem linkKept_failedRecord (hlive : Live s) (hlock : s.link.laneLock = true) (hs : LinkOk s) : LinkKept s s.failedRecord := by
  obtain ⟨hwire, hlines⟩ := linkOk_iff.1 hs
  have high : ¬ (s.link.laneLock = false ∨ s.resetLow = true) := by simp [hlock, hlive]
  unfold State.failedRecord
  split
  · next hup =>
    dsimp only
    split
    · exact linkKept_linkDown
    · next hn =>
      refine linkKept_withLink _ hs rfl ⟨?_, hwire.good, hwire.up, fun hd => absurd (hup.symm.trans hd) nofun,
        fun hb => absurd hb high⟩
      show s.link.failCount + 1 ≤ 7
      simp only [Config.failLimit] at hn
      omega
  · next hdown =>
    exact linkKept_withLink _ hs rfl ⟨hwire.fail, Nat.zero_le _, fun _ => rfl, hwire.down, fun hb => absurd hb high⟩

/-- The taking of a request: of the lines only that of the monitor asked is written. -/
theorem linkKept_serve {j : Running} {q : Request} (hs : LinkOk s) : LinkKept s (s.serve j q) := by
  obtain ⟨hwire, hlines⟩ := linkOk_iff.1 hs
  have hw : wireOf (s.serve j q) = wireOf s :=
    wireOf_of_changesOnly (changesOnly_serve s j q) (by cases q <;> simp [wireParts, requestParts, allWaiting, allRateFlows])
  have hup : (s.serve j q).link.up = s.link.up := congrArg Wire.up hw
  have hserve := changesOnly_serve s j q
  refine linkKept_of (hw ▸ hwire) (fun k => hup ▸ ?_) fun hu => hup ▸ hu
  cases q with
  | monitor e enable threshold =>
    dsimp only [State.serve]
    split
    · exact hlines k
    · next hguard =>
      obtain ⟨x, y, hcommit⟩ := (s.setMon e ((s.mon e).configure enable threshold)).commitOf_eq j
      have hline : ∀ r, ((((s.setMon e ((s.mon e).configure enable threshold)).commitOf j).withRunning r).line k) =
          (s.setMon e ((s.mon e).configure enable threshold)).line k := fun r => by rw [hcommit]; rfl
      rw [hline, State.line_setMon]
      split
      · obtain ⟨htaken, howed, henabled⟩ := hlines e
        refine ⟨htaken, howed, fun he => ?_⟩
        cases enable with
        | none => exact henabled he
        | some b =>
          obtain rfl : b = true := he
          exact Bool.not_eq_false _ ▸ fun hd => hguard ⟨rfl, hd⟩
      · exact hlines k
  | tripClear e =>
    dsimp only [State.serve]
    split
    · exact hlines k
    · exact (State.line_setMon_of_line (s := s) (k := k) (x := { s.mon e with tripFlag := false }) rfl) ▸ hlines k
  | _ =>
    rw [State.line_congr (hserve (.monitor k) (by simp [requestParts, allRateFlows]))]
    exact hlines k

theorem linkKept_of_moves (h : Moves s c t) (hc : c ≠ .powerOnReset) (hs : LinkOk s) : LinkKept s t := by
  obtain ⟨hwire, hlines⟩ := linkOk_iff.1 hs
  have hframe := moves_changesOnly h hc
  have outside : (∀ p ∈ wireParts, p ∉ reach c) → (∀ k, dealsLine c k = false) → LinkKept s t := fun hw hl =>
    linkKept_of_same hs (wireOf_of_changesOnly hframe hw) fun k => line_of_moves h hc (hl k)
  have handed : .linkState ∉ reach c ∧ .laneLock ∉ reach c ∧ .resetLine ∉ reach c → (∀ k, dealsLine c k = false) →
      (s.link.up = false → t.link = s.link) → LinkKept s t := fun hA hl hdown =>
    linkKept_of_handed hs hframe hA (fun k => line_of_moves h hc (hl k)) hdown
  cases h with
  | powerOn => exact absurd rfl hc
  | same => exact linkKept_of_same hs rfl fun _ => rfl
  | resetReleased solo hlow =>
    exact linkKept_of ⟨hwire.fail, hwire.good, hwire.up, hwire.down, fun _ => hwire.cut (.inr hlow)⟩ hlines fun hu => hu
  | lockGained =>
    exact linkKept_withLink _ hs rfl ⟨hwire.fail, hwire.good, hwire.up, hwire.down,
      fun hb => hwire.cut (.inr (hb.resolve_left nofun))⟩
  | lockLostInReset hlow =>
    exact linkKept_withLink _ hs rfl ⟨hwire.fail, hwire.good, hwire.up, hwire.down, fun _ => hwire.cut (.inr hlow)⟩
  | lockLostUp => exact linkKept_linkDown
  | lockLostDown _ hdown =>
    exact linkKept_withLink _ hs rfl ⟨hwire.fail, Nat.zero_le _, fun _ => rfl, hwire.down, fun _ => ⟨hdown, rfl⟩⟩
  | recordFailed hlive hlock => exact linkKept_failedRecord hlive hlock hs
  | recordPassed hlive hlock hh => exact linkKept_passedRecord hh hlive hlock hs
  | statusTaken _ e up level rest hi => exact linkKept_popped hi hs
  | lossTaken _ e rest hi => exact linkKept_popped hi hs
  | expiryTaken _ e =>
    exact handed (by simp [reach, allHeld]) (fun _ => rfl) fun hd => State.link_age_of_down (s := s.setArb e _) hd e
  | shutdownTaken _ e cancels rest =>
    exact handed (by simp [reach, allHeld]) (fun _ => rfl) fun hd => State.link_cancelAll_of_down (s := s.setArb e _) hd e cancels
  | grantIssued _ e f n =>
    exact handed (by simp [reach, allHeld]) (fun _ => rfl) fun hd => State.link_issue_of_down hd e f n _
  | recordSent _ e r rest hw hup =>
    exact handed (by simp [reach]) (fun _ => rfl) fun hd => absurd hup (by rw [hd]; nofun)
  | faultTaken _ src => exact outside (by cases src <;> simp [reach, sourcePart, wireParts, allWaiting]) (fun _ => rfl)
  | posted _ src => exact outside (by cases src <;> simp [reach, sourcePart, wireParts, allWaiting]) (fun _ => rfl)
  | @commandTaken _ _ htakes p r hn =>
    exact linkKept_of_same hs (wireOf_of_changesOnly (changesOnly_take s p r) (by simp [wireParts, allWaiting, takingParts]))
      fun k => line_of_moves (.commandTaken ‹_› htakes hn) hc (by cases c <;> first | rfl | cases htakes)
  | requestTaken j q rest => exact linkKept_serve hs
  | _ =>
    exact outside (by simp [reach, wireParts, allHeld, allArbiters, allWaiting, allRateFlows]) (fun _ => rfl)

end Sys2Proof.Machine
end

section
/-! PROOFS. What the arbiters' operations make of the flows they hold, and the token balances; O54. -/

namespace Sys2Proof.Machine

open Sys2Proof.Safety

variable {s t u : State} {c : Instr} {e k : TargetPort} {f g : Flow}

/-! ## Flows at the arbiters -/

theorem State.setReports_flow (s : State) (src : Source) (x : List FaultReport) (f : Flow) :
    (s.setReports src x).flow f = s.flow f := by
  cases src <;> rfl

theorem State.report_flow (s : State) (src : Source) (r : FaultReport) (f : Flow) : (s.report src r).flow f = s.flow f :=
  s.setReports_flow src _ f

theorem State.drainSets_flow (s : State) (tags : List GrantTag) (f : Flow) : (s.drainSets tags).flow f = s.flow f := by
  obtain ⟨m, x, hd⟩ := s.drainSets_eq tags
  rw [hd]; rfl

/-- Expired grants leave their flows' accounts (R79, R82). -/
theorem State.age_flow (s : State) (e : TargetPort) (f : Flow) :
    (s.age e).flow f = { s.flow f with demand := (s.flow f).demand.less (s.arb e).aged.expired f } := by
  unfold State.age
  dsimp only
  rw [State.drainSets_flow, State.setReports_flow, State.hand_flow, State.retire_flow, State.setArb_arb_self, State.setArb_flow]

/-- A tally takes the delivered counts of the flows it reports (R30). -/
theorem State.sendTally_flow (s : State) (e : TargetPort) (f : Flow) :
    (s.sendTally e).flow f = if s.holds e f then { s.flow f with demand := (s.flow f).demand.counted } else s.flow f := by
  rw [State.sendTally, State.withHeld_flow, Table.get_tab]

/-- A refill set raises the balances that it names and that are not lost (R41). -/
theorem State.refill_flow (s : State) (e : TargetPort) (x : RefillSet) (f : Flow) :
    (s.refill e x).flow f =
      match refillFor x f with
      | some r =>
        if s.refillLost e f then s.flow f
        else { s.flow f with demand := (s.flow f).demand.refilled r (s.flow f).view.burstCap }
      | none => s.flow f := by
  cases h : refillFor x f <;> simp only [State.refill, State.withHeld_flow, Table.get_tab, h]

/-- A shutdown clears the port's flows (R84). -/
theorem State.cancelAll_flow (s : State) (e : TargetPort) (b : Bool) (f : Flow) :
    (s.cancelAll e b).flow f =
      if Holds s e f then { s.flow f with demand := ((s.flow f).demand.less (s.arb e).busy f).shutDown }
      else { s.flow f with demand := (s.flow f).demand.less (s.arb e).busy f } := by
  simp only [State.cancelAll, State.clearBacklogs, State.withHeld_flow, Table.get_tab, State.holds, State.hand_flow,
    State.retire_flow, beq_iff_eq]

/-- A grant takes its cells from the balance of its flow (R77). -/
theorem State.issue_flow (s : State) (e : TargetPort) (f g : Flow) (n : Slot) (k : Nat) :
    (s.issue e f n k).flow g =
      if g = f then { s.flow f with demand := (s.flow f).demand.granted k } else s.flow g := by
  unfold State.issue
  dsimp only
  rw [State.hand_flow, State.setDemand_flow]
  rfl

/-! ## Balances (R13) -/

/-- A step keeps what is known of the balances: within the burst cap, and 0 while OFF. -/
def BalancesKept (s t : State) : Prop :=
  ∀ f, ((s.flow f).demand.balance ≤ (s.flow f).view.burstCap → (t.flow f).demand.balance ≤ (t.flow f).view.burstCap) ∧
    (Off t f → Off s f ∧ ((s.flow f).demand.balance = 0 → (t.flow f).demand.balance = 0))

/-- What a step does to one flow at the arbiters: its holder and view stay, and its balance does not rise while
it is OFF, nor ever above
its burst cap. -/
def PurseKept (off : Prop) (x y : ArbiterFlow) : Prop :=
  (y.holder = x.holder ∧ y.view = x.view) ∧ (y.demand.balance ≤ x.demand.balance ∨ (¬ off ∧ y.demand.balance ≤ x.view.burstCap))

theorem PurseKept.refl {off : Prop} (x : ArbiterFlow) : PurseKept off x x := ⟨⟨rfl, rfl⟩, .inl (Nat.le_refl _)⟩

theorem PurseKept.trans {off : Prop} {x y z : ArbiterFlow} (h : PurseKept off x y) (h' : PurseKept off y z) :
    PurseKept off x z := by
  obtain ⟨⟨hh, hv⟩, hb⟩ := h
  obtain ⟨⟨hh', hv'⟩, hb'⟩ := h'
  refine ⟨⟨hh'.trans hh, hv'.trans hv⟩, ?_⟩
  rw [hv] at hb'
  rcases hb' with hle | hb'
  · exact hb.imp (fun hx => Nat.le_trans hle hx) fun ⟨ho, hx⟩ => ⟨ho, Nat.le_trans hle hx⟩
  · exact .inr hb'

/-- A change of the other demand fields. -/
theorem purseKept_demand {off : Prop} (x : ArbiterFlow) (d : Demand) (h : d.balance ≤ x.demand.balance) :
    PurseKept off x { x with demand := d } := ⟨⟨rfl, rfl⟩, .inl h⟩

/-- A refill or a refund of a flow that is not OFF (R13). -/
theorem purseKept_refilled {off : Prop} (x : ArbiterFlow) (n : Nat) (h : ¬ off) :
    PurseKept off x { x with demand := x.demand.refilled n x.view.burstCap } := ⟨⟨rfl, rfl⟩, .inr ⟨h, Nat.min_le_right _ _⟩⟩

theorem balancesKept_of_purses (hoff : ∀ f, Off t f → Off s f) (h : ∀ f, PurseKept (Off s f) (s.flow f) (t.flow f)) :
    BalancesKept s t := by
  intro f
  obtain ⟨⟨-, hv⟩, hb⟩ := h f
  refine ⟨fun hs => ?_, fun ho => ⟨hoff f ho, fun hz => ?_⟩⟩
  · rw [hv]; omega
  · have := hoff f ho
    rcases hb with hb | ⟨hn, -⟩
    · omega
    · exact absurd this hn

theorem State.purseKept_complete (s : State) (e : TargetPort) (n : Slot) (g : Grant) (j : Nat) (endMark : Bool) (f : Flow) :
    PurseKept (Off s f) (s.flow f) ((s.complete e n g j endMark).flow f) := by
  have set : ∀ (u : State) (x : Demand), x.balance ≤ (u.flow g.flow).demand.balance →
      PurseKept (Off s f) (u.flow f) ((u.setDemand g.flow x).flow f) := by
    intro u x hx
    rw [State.setDemand_flow]
    split
    · next hf => subst hf; exact purseKept_demand _ _ hx
    · exact .refl _
  have retired : ∀ u : State, PurseKept (Off s f) (u.flow f) ((u.retire e [(n, g)]).flow f) := fun u => by
    rw [State.retire_flow]; exact purseKept_demand _ _ (Nat.le_refl _)
  have credited : PurseKept (Off s f) (s.flow f) ((s.credit g.flow j).flow f) := set s _ (Nat.le_refl _)
  unfold State.complete
  dsimp only
  split
  · rw [State.report_flow]; exact credited.trans (retired _)
  · split
    · exact credited.trans (retired _)
    · split
      · refine (credited.trans (retired _)).trans ?_
        unfold State.refund
        split
        · exact .refl _
        · next hoff =>
          rw [State.setDemand_flow]
          split
          · next hf =>
            subst hf
            refine purseKept_refilled _ _ fun ho => hoff ?_
            exact beq_iff_eq.2 ho
          · exact .refl _
      · exact credited.trans (set ((s.credit g.flow j).setArb e _) _ (Nat.le_refl _))

/-- Every row but the power-on reset and those that take requests keeps each flow's purse. -/
theorem purses_of_moves (h : Moves s c t) (hc : c ≠ .powerOnReset)
    (hrequest : ∀ j q rest, Asks s j q rest → c = q.row → t ≠ s.serve { j with todo := rest } q) (f : Flow) :
    PurseKept (Off s f) (s.flow f) (t.flow f) := by
  have hframe := moves_changesOnly h hc
  have outside : .held f ∉ reach c → PurseKept (Off s f) (s.flow f) (t.flow f) := fun hn => by
    rw [show t.flow f = s.flow f from hframe _ hn]; exact .refl _
  cases h with
  | powerOn => exact absurd rfl hc
  | same => exact .refl _
  | requestTaken j q rest hasks => exact absurd rfl (hrequest j q rest hasks rfl)
  | expiryTaken _ e =>
    rw [State.sendTally_flow]
    have aged : PurseKept (Off s f) (s.flow f)
        ((State.renewBudget (State.age (s.setArb e { s.arb e with expiries := (s.arb e).expiries - 1 }) e) e).flow f) := by
      rw [State.renewBudget, State.setArb_flow, State.age_flow]
      exact purseKept_demand _ _ (Nat.le_refl _)
    split
    · exact aged.trans (purseKept_demand _ _ (Nat.le_refl _))
    · exact aged
  | refillDiscarded => exact .refl _
  | refillTaken _ e x rest =>
    rw [State.refill_flow]
    split
    · split
      · exact .refl _
      · next hlost =>
        refine purseKept_refilled _ _ fun ho => hlost ?_
        have hoff : (s.setArb e { s.arb e with refills := rest }).isOff f = true := beq_iff_eq.2 ho
        simp [State.refillLost, hoff]
    · exact .refl _
  | backlogApplied _ e g cells flush rest =>
    unfold State.applyBacklog
    split
    · rw [State.report_flow]; exact .refl _
    · split
      · rw [State.setDemand_flow]
        split
        · next hf => subst hf; exact purseKept_demand _ _ (Nat.le_refl _)
        · exact .refl _
      · rw [State.report_flow]; exact .refl _
  | completed _ e tag j endMark rest g => exact State.purseKept_complete (s.popArbiter e rest) e tag.slot g j endMark f
  | doneLate => rw [State.report_flow]; exact .refl _
  | shutdownTaken _ e cancels rest =>
    rw [State.cancelAll_flow]
    split <;> exact purseKept_demand _ _ (Nat.le_refl _)
  | grantIssued _ e g n =>
    rw [State.issue_flow]
    split
    · next hf => subst hf; exact purseKept_demand _ _ (Nat.sub_le _ _)
    · exact .refl _
  | @commandTaken _ _ _ p r =>
    rw [show ((s.takeFrom p).beginRecord p r).flow f = s.flow f from changesOnly_take s p r (.held f) (by simp [takingParts])]
    exact .refl _
  | recordPassed _ _ hh => exact outside (by simp [reach_of_handler hh, allArbiters, allMonitors])
  | faultTaken _ src | posted _ src => exact outside (by cases src <;> simp [reach, sourcePart])
  | _ => exact outside (by simp [reach, allArbiters, allMonitors, allWaiting, allRateFlows])

/-! ## Flows that are OFF -/

/-- The rate controller leaves OFF alone (R19). -/
theorem runController_off (p : Profile) (floor ceiling capacity n d : Nat) (x : Controller) :
    (runController p floor ceiling capacity n d x).state = .off ↔ x.state = .off := by
  unfold runController startStage
  dsimp only
  split
  · next hs =>
    dsimp only at hs ⊢
    rw [hs]
    split <;> simp
  · exact Iff.rfl

theorem State.computed_off (s : State) (x : Tally) (f : Flow) : (s.computed x f).state = .off ↔ Off s f := by
  unfold State.computed
  dsimp only
  split
  · split
    · exact Iff.rfl
    · exact runController_off ..
  · exact Iff.rfl

/-- Every row but the power-on reset and those that take requests leaves OFF flows OFF, and no others. -/
theorem off_of_moves (h : Moves s c t) (hc : c ≠ .powerOnReset)
    (hrequest : ∀ j q rest, Asks s j q rest → c = q.row → t ≠ s.serve { j with todo := rest } q) (f : Flow) :
    Off t f ↔ Off s f := by
  have hframe := moves_changesOnly h hc
  have outside : .rateFlow f ∉ reach c → (Off t f ↔ Off s f) := fun hn => by
    rw [Off, show t.rflow f = s.rflow f from hframe _ hn]
  cases h with
  | powerOn => exact absurd rfl hc
  | same => exact Iff.rfl
  | requestTaken j q rest hasks => exact absurd rfl (hrequest j q rest hasks rfl)
  | tallyDiscarded => exact Iff.rfl
  | tallyComputed _ x rest =>
    rw [Off, State.compute, State.setArb_rflow, State.withRate_rflow, Table.get_tab]
    exact State.computed_off (s.withRate { s.rate with queue := rest }) x f
  | @commandTaken _ _ _ p r =>
    rw [Off, show ((s.takeFrom p).beginRecord p r).rflow f = s.rflow f from
      changesOnly_take s p r (.rateFlow f) (by simp [takingParts])]
  | recordPassed _ _ hh => exact outside (by simp [reach_of_handler hh, allArbiters, allMonitors])
  | faultTaken _ src | posted _ src => exact outside (by cases src <;> simp [reach, sourcePart])
  | _ => exact outside (by simp [reach, allArbiters, allMonitors, allWaiting, allHeld])

/-- A request that leaves the flows at the arbiters, and brings none OFF. -/
theorem balancesKept_of_rate (hf : ∀ f, t.flow f = s.flow f) (ho : ∀ f, Off t f → Off s f) : BalancesKept s t := by
  intro f
  rw [hf]
  exact ⟨id, fun h => ⟨ho f h, id⟩⟩

/-- A request that leaves the Rate Engine's flows, and writes one flow at the arbiters. -/
theorem balancesKept_setFlow {x : ArbiterFlow} (ht : ∀ k, t.flow k = (s.setFlow f x).flow k) (hr : ∀ k, t.rflow k = s.rflow k)
    (hcap : (s.flow f).demand.balance ≤ (s.flow f).view.burstCap → x.demand.balance ≤ x.view.burstCap)
    (hzero : (s.flow f).demand.balance = 0 → x.demand.balance = 0) : BalancesKept s t := by
  intro k
  rw [Off, hr, ht, State.setFlow_flow]
  split
  · next hk => rw [hk]; exact ⟨hcap, fun h => ⟨h, hzero⟩⟩
  · exact ⟨id, fun h => ⟨h, id⟩⟩

/-- Requests that change what the Rate Engine holds of a flow. -/
def reachesRateFlows : Request → Bool
  | .bound .. | .startEntry _ | .offEntry _ | .capacity .. | .profile .. | .reshape .. => true
  | _ => false

theorem balancesKept_serve_rate (s : State) (j : Running) {q : Request} (hq : ∀ f, q ≠ .offEntry f)
    (hr : reachesRateFlows q = true) : BalancesKept s (s.serve j q) := by
  have hserve := changesOnly_serve s j q
  refine balancesKept_of_rate (fun k => hserve (.held k) ?_) fun k => ?_
  · cases q <;> first | (simp [requestParts, allRateFlows]; done) | cases hr
  clear hserve
  cases q with
  | offEntry f => exact absurd rfl (hq f)
  | bound f v =>
    rw [Off, State.serve, State.withRunning_rflow, State.setRflow_rflow]
    split
    · next hk => rw [hk]; exact id
    · exact id
  | startEntry f =>
    simp only [Off, State.serve, State.withRunning_rflow]
    split
    · rw [State.setRflow_rflow]
      split
      · exact fun h => by cases h
      · exact id
    · exact id
  | capacity e n =>
    simp only [Off, State.serve, State.withRunning_rflow, State.withRate_rflow, Table.get_tab]
    split <;> exact id
  | profile i w =>
    simp only [Off, State.serve, State.withRunning_rflow, State.withRate_rflow, Table.get_tab]
    split <;> exact id
  | reshape x a =>
    simp only [Off, State.serve, State.withRunning_rflow, State.withRate_rflow, Table.get_tab]
    split
    · cases a <;> first | exact id | exact fun h => by cases h
    · exact id
  | _ => cases hr

theorem balancesKept_serve_held (s : State) (j : Running) {q : Request} (hr : reachesRateFlows q = false) :
    BalancesKept s (s.serve j q) := by
  have hserve := changesOnly_serve s j q
  have hrate : ∀ k, (s.serve j q).rflow k = s.rflow k := fun k =>
    hserve (.rateFlow k) (by cases q <;> first | (simp [requestParts, allRateFlows]; done) | cases hr)
  have elsewhere : (∀ k, .held k ∉ requestParts j q) → BalancesKept s (s.serve j q) := fun hh =>
    balancesKept_of_rate (fun k => hserve _ (hh k)) fun k h => by rwa [Off, hrate] at h
  cases q with
  | release f e =>
    by_cases hg : 0 < (s.flow f).demand.grantCount
    · refine balancesKept_of_rate (fun k => ?_) fun k h => by rwa [Off, hrate] at h
      rw [State.serve, if_pos hg]; rfl
    · refine balancesKept_setFlow (x := { s.flow f with holder := none }) (fun k => ?_) hrate id id
      obtain ⟨x, y, hcommit⟩ := (s.setFlow f { s.flow f with holder := none }).commitOf_eq j
      rw [State.serve, if_neg hg, hcommit]; rfl
  | flowTake f e v => exact balancesKept_setFlow (fun _ => rfl) hrate (fun _ => Nat.zero_le _) fun _ => rfl
  | flowConfig f v =>
    exact balancesKept_setFlow (fun _ => rfl) hrate (fun _ => Nat.min_le_right _ _)
      fun h => Nat.le_zero.1 (h ▸ Nat.min_le_left _ _)
  | clearing f =>
    exact balancesKept_setFlow (x := { s.flow f with demand :=
      { (s.flow f).demand with balance := 0, backlog := 0, flush := false } })
      (fun _ => rfl) hrate (fun _ => Nat.zero_le _) fun _ => rfl
  | _ => exact elsewhere (by simp [requestParts, allRateFlows])

theorem balancesKept_serve (s : State) (j : Running) {q : Request} (hq : ∀ f, q ≠ .offEntry f) :
    BalancesKept s (s.serve j q) := by
  cases hr : reachesRateFlows q with
  | true => exact balancesKept_serve_rate s j hq hr
  | false => exact balancesKept_serve_held s j hr

/-- An OFF entry leaves the balances, and brings OFF one flow at most. -/
theorem off_serve_offEntry (s : State) (j : Running) (f k : Flow) :
    (s.serve j (.offEntry f)).flow k = s.flow k ∧ (Off (s.serve j (.offEntry f)) k → k = f ∨ Off s k) := by
  refine ⟨rfl, fun h => ?_⟩
  rw [Off, State.serve, State.withRunning_rflow, State.setRflow_rflow] at h
  split at h
  · next hk => exact .inl hk
  · exact .inr h

/-! ## Clearing requests (R20) -/

/-- The requests of the command in execution bring every clearing that its OFF entries call for. -/
def ClearsOk (todo : List Request) : Prop :=
  clearsFollow todo = true ∧ ((∀ q ∈ todo, isClearing q = false) ∨ ∀ q ∈ todo, mayRefuse q = false)

theorem balancesOk_iff :
    BalancesOk s ↔ (∀ f, (s.flow f).demand.balance ≤ (s.flow f).view.burstCap ∧
      (Off s f → (s.flow f).demand.balance = 0 ∨ Request.clearing f ∈ todoOf s)) ∧ ClearsOk (todoOf s) := by
  simp only [BalancesOk, ClearsOk, Bool.or_eq_true, Bool.not_eq_true', List.any_eq_false, Bool.not_eq_true]

variable {q : Request} {rest : List Request}

theorem clearsFollow_tail (h : clearsFollow (q :: rest) = true) : clearsFollow rest = true := by
  cases q <;> first | exact h | exact (Bool.and_eq_true_iff.1 h).2

theorem ClearsOk.tail (h : ClearsOk (q :: rest)) : ClearsOk rest :=
  ⟨clearsFollow_tail h.1, h.2.imp (fun h y hy => h y (.tail _ hy)) fun h y hy => h y (.tail _ hy)⟩

/-- Requests of which none takes a flow OFF or clears one. -/
def NoClears (todo : List Request) : Prop := (∀ f, .offEntry f ∉ todo) ∧ ∀ q ∈ todo, isClearing q = false

theorem NoClears.clearsOk (h : NoClears rest) : ClearsOk rest := by
  obtain ⟨hoff, hclear⟩ := h
  refine ⟨?_, .inl hclear⟩
  clear hclear
  induction rest with
  | nil => rfl
  | cons q rest ih =>
    have htail := ih fun f hf => hoff f (.tail _ hf)
    cases q with
    | offEntry f => exact absurd (.head _) (hoff f)
    | _ => exact htail

theorem NoClears.cons (h : NoClears rest) (hoff : ∀ f, q ≠ .offEntry f) (hq : isClearing q = false) : NoClears (q :: rest) :=
  ⟨fun f hf => (List.mem_cons.1 hf).elim (fun he => hoff f he.symm) (h.1 f), List.forall_mem_cons.2 ⟨hq, h.2⟩⟩

theorem clearsOk_nil : ClearsOk [] := ⟨rfl, .inl (by simp)⟩

/-- A refusal can only take away requests that clear nothing. -/
theorem ClearsOk.no_clearing (h : ClearsOk (q :: rest)) (hr : mayRefuse q = true) : Request.clearing f ∉ q :: rest := by
  intro hm
  rcases h.2 with h | h
  · exact absurd (h _ hm) nofun
  · exact absurd (h _ (.head _)) (by simp [hr])

theorem noClears_flowRequests (f : Flow) (x y : FlowConfig) : NoClears (flowRequests f x y) := by
  refine ⟨fun g hg => ?_, fun q hq => ?_⟩
  · obtain h | h | h | h := flowRequests_mem hg <;> cases h
  · obtain rfl | rfl | rfl | rfl := flowRequests_mem hq <;> rfl

theorem noClears_portRequests (e : TargetPort) (x y : PortConfig) : NoClears (portRequests e x y) := by
  refine ⟨fun g hg => ?_, fun q hq => ?_⟩
  · obtain h | h := portRequests_mem hg <;> cases h
  · obtain rfl | rfl := portRequests_mem hq <;> rfl

/-- A command taken has such requests to send. -/
theorem clearsOk_take (s : State) (p : MPort) (r : CommandRecord) : ClearsOk (todoOf ((s.takeFrom p).beginRecord p r)) := by
  show ClearsOk (workOf ((s.takeFrom p).beginRecord p r)).todo
  obtain ⟨todo, closed, htodo, hw⟩ | ⟨f, w, hw⟩ | ⟨e, w, hw⟩ := workOf_take (s := s) (p := p) (r := r) <;> rw [hw]
  · obtain hquiet | ⟨f, rfl⟩ | ⟨e, rfl⟩ := htodo
    · refine NoClears.clearsOk ⟨fun f hf => Bool.noConfusion (hquiet _ hf), fun q hq => ?_⟩
      have := hquiet q hq
      cases q <;> first | rfl | cases this
    · exact ⟨by simp [clearsFollow], .inr (by simp [mayRefuse])⟩
    · exact NoClears.clearsOk ⟨by simp, by simp [isClearing]⟩
  · obtain hb | ⟨-, -, hb⟩ | ⟨-, -, hb⟩ := workOf_beginFlowSet (s := s.takeFrom p) (j := fresh p r) rfl f w <;> rw [hb]
    · exact clearsOk_nil
    · exact ((noClears_flowRequests _ _ _).cons (fun f h => by cases h) rfl).clearsOk
    · exact (noClears_flowRequests _ _ _).clearsOk
  · obtain hb | ⟨-, _, _, hb⟩ | ⟨-, hb⟩ := workOf_beginPortSet (s := s.takeFrom p) (j := fresh p r) rfl e w <;> rw [hb]
    · exact clearsOk_nil
    · exact ((noClears_portRequests _ _ _).cons (fun f h => by cases h) rfl).clearsOk
    · exact (noClears_portRequests _ _ _).clearsOk

/-! ## The token balances -/

theorem balancesOk_of_kept (hs : BalancesOk s) (h : BalancesKept s t) (hclears : ClearsOk (todoOf t))
    (hmem : ∀ f, Off t f → .clearing f ∈ todoOf s → (t.flow f).demand.balance = 0 ∨ .clearing f ∈ todoOf t) : BalancesOk t := by
  rw [balancesOk_iff] at hs ⊢
  obtain ⟨hbalance, -⟩ := hs
  refine ⟨fun f => ⟨(h f).1 (hbalance f).1, fun ho => ?_⟩, hclears⟩
  obtain ⟨hoff, hzero⟩ := (h f).2 ho
  rcases (hbalance f).2 hoff with hz | hm
  · exact .inl (hzero hz)
  · exact hmem f ho hm

/-- The taking of a request. -/
theorem balancesOk_serve {j : Running} (hs : BalancesOk s) (hasks : Asks s j q rest) :
    BalancesOk (s.serve { j with todo := rest } q) := by
  have htodo : todoOf s = q :: rest := (todoOf_of_running hasks.2.1).trans hasks.2.2
  obtain ⟨hbalance, hclears⟩ := balancesOk_iff.1 hs
  rw [htodo] at hclears
  by_cases hoff : ∃ f, q = .offEntry f
  · obtain ⟨f, rfl⟩ := hoff
    have ht : todoOf (s.serve { j with todo := rest } (.offEntry f)) = rest := rfl
    rw [balancesOk_iff, ht]
    refine ⟨fun k => ?_, hclears.tail⟩
    obtain ⟨hflow, ho⟩ := off_serve_offEntry s { j with todo := rest } f k
    rw [hflow]
    refine ⟨(hbalance k).1, fun h => ?_⟩
    rcases ho h with rfl | hk
    · exact .inr (of_decide_eq_true (Bool.and_eq_true_iff.1 hclears.1).1)
    · refine ((hbalance k).2 hk).imp_right fun hm => ?_
      rw [htodo] at hm
      simpa using hm
  · have hkept := balancesKept_serve s { j with todo := rest } fun f hf => hoff ⟨f, hf⟩
    have still : ∀ put : List Request, todoOf (s.serve { j with todo := rest } q) = put ++ rest → ClearsOk (put ++ rest) →
        (∀ f, q ≠ .clearing f) → BalancesOk (s.serve { j with todo := rest } q) := by
      intro put ht hput hq
      refine balancesOk_of_kept hs hkept (ht ▸ hput) fun f _ hm => .inr ?_
      rw [htodo] at hm
      rw [ht]
      exact List.mem_append_right _ ((List.mem_cons.1 hm).resolve_left fun h => hq f h.symm)
    obtain ⟨hr, hw⟩ | ⟨hr, -, hw⟩ | ⟨-, -, hw⟩ | ⟨e, rfl, hw⟩ | ⟨e, rfl, hw | ⟨rfl, hw⟩⟩ := workOf_serve hasks
    · have ht : todoOf (s.serve { j with todo := rest } q) = [] := congrArg Work.todo hw
      exact balancesOk_of_kept hs hkept (ht ▸ clearsOk_nil) fun f _ hm => absurd (htodo ▸ hm) (hclears.no_clearing hr)
    · exact still [] (congrArg Work.todo hw) hclears.tail fun f hf => by rw [hf] at hr; cases hr
    · have ht : todoOf (s.serve { j with todo := rest } q) = rest := congrArg Work.todo hw
      refine balancesOk_of_kept hs hkept (by rw [ht]; exact hclears.tail) fun f _ hm => ?_
      rw [htodo] at hm
      rcases List.mem_cons.1 hm with rfl | hm
      · exact .inl (congrArg (fun x : ArbiterFlow => x.demand.balance) (State.setDemand_flow_self s f _))
      · exact .inr (by rw [ht]; exact hm)
    · exact still [.fenceAnswer e] (congrArg Work.todo hw)
        ⟨hclears.tail.1, hclears.tail.2.imp (fun h => List.forall_mem_cons.2 ⟨rfl, h⟩) fun h => List.forall_mem_cons.2 ⟨rfl, h⟩⟩
        nofun
    · exact still [.fenceAnswer e] ((congrArg Work.todo hw).trans htodo) hclears nofun
    · have ht : todoOf (s.serve { j with todo := [] } (.fenceAnswer e)) = [] := congrArg Work.todo hw
      exact balancesOk_of_kept hs hkept (by rw [ht]; exact clearsOk_nil) fun f _ hm => by rw [htodo] at hm; simp at hm

theorem balancesOk_of_moves (h : Moves s c t) (hs : BalancesOk s) : BalancesOk t := by
  by_cases hc : c = .powerOnReset
  · obtain rfl | rfl := moves_powerOn h hc
    · rw [balancesOk_iff]
      refine ⟨fun f => ?_, clearsOk_nil⟩
      have hf : s.powerOn.flow f = powerOnArbiterFlow := Table.get_const _ f
      rw [hf]
      exact ⟨Nat.zero_le _, fun _ => .inl rfl⟩
    · exact hs
  by_cases hrequest : ∃ j q rest, Asks s j q rest ∧ c = q.row ∧ t = s.serve { j with todo := rest } q
  · obtain ⟨j, q, rest, hasks, -, rfl⟩ := hrequest
    exact balancesOk_serve hs hasks
  have hnot : ∀ j q rest, Asks s j q rest → c = q.row → t ≠ s.serve { j with todo := rest } q :=
    fun j q rest ha hr ht => hrequest ⟨j, q, rest, ha, hr, ht⟩
  have hkept : BalancesKept s t :=
    balancesKept_of_purses (fun f => (off_of_moves h hc hnot f).1) (purses_of_moves h hc hnot)
  have hclears : ClearsOk (todoOf s) := (balancesOk_iff.1 hs).2
  obtain ⟨hreset, -⟩ | hw | ⟨p, r, hlive, hn, rfl⟩ | ⟨j, hj, htodo, rfl⟩ | h := moves_work h
  · exact absurd hreset hc
  · have ht : todoOf t = todoOf s := congrArg Work.todo hw
    exact balancesOk_of_kept hs hkept (ht ▸ hclears) fun f _ hm => .inr (ht ▸ hm)
  · obtain ⟨hidle, -⟩ := State.nextCommand_eq_some s hn
    refine balancesOk_of_kept hs hkept (clearsOk_take s p r) fun f _ hm => ?_
    rw [todoOf_of_idle hidle] at hm
    cases hm
  · have ht : todoOf (s.endCommand j) = [] := congrArg Work.todo (workOf_endCommand j)
    refine balancesOk_of_kept hs hkept (ht ▸ clearsOk_nil) fun f _ hm => ?_
    rw [todoOf_of_running hj, htodo] at hm
    cases hm
  · exact absurd h hrequest

/-! ## The five invariants -/

theorem linkOk_powerOn (s : State) : LinkOk s.powerOn := by
  refine linkOk_iff.2 ⟨⟨Nat.zero_le _, Nat.zero_le _, fun _ => rfl, fun _ => ⟨rfl, fun e => Table.get_const _ e⟩,
    fun _ => ⟨rfl, rfl⟩⟩, fun e => Line.Settled.ok ?_ _⟩
  have hm : s.powerOn.mon e = powerOnMonitor := Table.get_const _ e
  rw [State.line, hm]
  exact ⟨rfl, rfl, rfl⟩

/-- Settles O54, by what a row can do to the fault table, to an arbiter's core, to a monitor's line, and to a flow's purse. -/
theorem stepKeepsBlockInvariants : Obligations.StepKeepsBlockInvariants := by
  intro s t h
  have kept : ∀ {P : State → Prop}, (∀ s rest, P s → P { s with pending := rest }) →
      (∀ s c t, Moves s c t → P s → P t) → P s → P t := fun hq hr hs => step_keeps hq hr h hs
  refine ⟨kept (fun _ _ h => h) fun _ _ _ => faultTableOk_of_moves, kept (fun _ _ h => h) fun _ _ _ => talliesOk_of_moves,
    kept (fun _ _ h => h) fun _ _ _ => budgetsOk_of_moves, fun e hclose hreset => ?_, fun hs => ?_,
    kept (fun _ _ h => h) fun _ _ _ => balancesOk_of_moves⟩
  · obtain ⟨-, rfl⟩ | ⟨c, rest, hp, hm⟩ := step_cases h
    · exact ⟨Nat.le_refl _, fun _ => rfl⟩
    · rw [hp] at hclose hreset
      obtain ⟨hle, heq⟩ := (coreMoves_of_moves hm (fun hc => hreset (by rw [hc]; rfl)) e).sum fun hc => hclose (by rw [hc]; rfl)
      exact ⟨hle, fun hn => heq fun hc => hn (by rw [hp, hc]; rfl)⟩
  · obtain ⟨-, rfl⟩ | ⟨c, rest, hp, hm⟩ := step_cases h
    · exact ⟨hs, fun hd hu => absurd (hd.symm.trans hu) nofun⟩
    · by_cases hc : c = .powerOnReset
      · obtain rfl | rfl := moves_powerOn hm hc
        · exact ⟨linkOk_powerOn _, fun _ hu => Bool.noConfusion hu⟩
        · exact ⟨hs, fun hd hu => absurd (hd.symm.trans hu) nofun⟩
      · exact linkKept_of_moves (s := { s with pending := rest }) hm hc hs

end Sys2Proof.Machine
end

section
/-! PROOFS. O58: refill rates within their bounds, and integrators within their clamps. -/

namespace Sys2Proof.Machine

open Sys2Proof.Safety

variable {s t : State} {c : Instr} {f : Flow}

/-! ## One flow at the Rate Engine (R7, R8) -/

/-- A flow of the Rate Engine in order, by the capacity of its port and the integrator clamp of its profile. -/
structure RateFlow.Ok (x : RateFlow) (capacity clamp : Nat) : Prop where
  bounds : x.view.floor ≤ min x.view.ceiling capacity
  off : x.ctl.state = .off → x.ctl.rate = 0 ∧ x.ctl.integrator = 0
  low : x.ctl.state ≠ .off → x.view.floor ≤ x.ctl.rate
  high : x.ctl.state ≠ .off → x.ctl.rate ≤ min x.view.ceiling capacity
  integrator : x.ctl.integrator.natAbs ≤ clamp

/-- The flow of the Rate Engine in a state is in order. -/
def RateOk (s : State) (f : Flow) : Prop :=
  (s.rflow f).Ok (Table.get s.rate.capacity (s.rflow f).view.port)
    (Table.get s.rate.profiles (s.rflow f).view.profile).integratorClamp

theorem controllersOk_iff : ControllersOk s ↔ ∀ f, RateOk s f := by
  refine forall_congr' fun f => ⟨fun ⟨hb, hr, hi⟩ => ?_, fun h => ?_⟩
  · by_cases ho : Off s f
    · rw [if_pos ho] at hr
      exact ⟨hb, fun _ => hr, fun hn => absurd ho hn, fun hn => absurd ho hn, hi⟩
    · rw [if_neg ho] at hr
      exact ⟨hb, fun h => absurd h ho, fun _ => hr.1, fun _ => hr.2, hi⟩
  · refine ⟨h.bounds, ?_, h.integrator⟩
    split
    · next ho => exact h.off ho
    · next ho => exact ⟨h.low ho, h.high ho⟩

variable {x : RateFlow} {capacity clamp : Nat}

theorem natAbs_clampInt_le (n : Nat) (v : Int) : (clampInt (-(n : Int)) n v).natAbs ≤ n := by
  have := clampInt_mem (lo := -(n : Int)) (hi := n) v (by omega)
  omega

/-- START entry and RESTART (R18, R154). -/
theorem RateFlow.Ok.start (h : x.Ok capacity clamp) : x.start.Ok capacity clamp :=
  ⟨h.bounds, fun ho => (nomatch ho), fun _ => Nat.le_refl _, fun _ => h.bounds, Nat.zero_le _⟩

theorem RateFlow.Ok.reshape (h : x.Ok capacity clamp) (a : Action) : (x.reshape a).Ok capacity clamp := by
  cases a with
  | restart => exact h.start
  | freeze => exact ⟨h.bounds, h.off, h.low, h.high, h.integrator⟩
  | thaw => exact ⟨h.bounds, h.off, h.low, h.high, h.integrator⟩

/-- OFF entry (R20). -/
theorem RateFlow.Ok.offEntry (h : x.Ok capacity clamp) : RateFlow.Ok { x with ctl := x.ctl.offEntry } capacity clamp :=
  ⟨h.bounds, fun _ => ⟨rfl, rfl⟩, fun hn => absurd rfl hn, fun hn => absurd rfl hn, Nat.zero_le _⟩

/-- New bounds, with the rate and the integrator clamped into them (R4, R138). -/
theorem RateFlow.Ok.rebound {old oldClamp : Nat} (h : x.Ok old oldClamp) {v : RateView} (hv : v.floor ≤ min v.ceiling capacity) :
    RateFlow.Ok { view := v, ctl := x.ctl.rebound v capacity clamp } capacity clamp := by
  have hmem := clampNat_mem (lo := v.floor) (hi := min v.ceiling capacity) x.ctl.rate hv
  have hrate : (x.ctl.rebound v capacity clamp).rate =
      if x.ctl.state = .off then x.ctl.rate else clampNat v.floor (min v.ceiling capacity) x.ctl.rate := rfl
  refine ⟨hv, fun (ho : x.ctl.state = .off) => ?_, fun (hn : x.ctl.state ≠ .off) => ?_, fun (hn : x.ctl.state ≠ .off) => ?_,
    natAbs_clampInt_le clamp _⟩
  · obtain ⟨hr, hi⟩ := h.off ho
    refine ⟨by rw [hrate, if_pos ho, hr], ?_⟩
    show clampInt _ _ x.ctl.integrator = 0
    rw [hi]
    exact clampInt_of_mem (by omega) (by omega)
  · show v.floor ≤ (x.ctl.rebound v capacity clamp).rate
    rw [hrate, if_neg hn]; exact hmem.1
  · show (x.ctl.rebound v capacity clamp).rate ≤ _
    rw [hrate, if_neg hn]; exact hmem.2

/-- A changed capacity, with the rate lowered to it (R7, R143). -/
theorem RateFlow.Ok.lowered {old : Nat} (h : x.Ok old clamp) (hv : x.view.floor ≤ capacity) (hon : x.ctl.state ≠ .off) :
    RateFlow.Ok { x with ctl := { x.ctl with rate := min x.ctl.rate capacity } } capacity clamp := by
  have hlow := h.low hon
  have hhigh := h.high hon
  have hbounds := h.bounds
  exact ⟨by dsimp only; omega, fun ho => absurd ho hon, fun _ => by dsimp only; omega, fun _ => by dsimp only; omega,
    h.integrator⟩

/-- A changed capacity of a flow that is OFF. -/
theorem RateFlow.Ok.of_capacity {old : Nat} (h : x.Ok old clamp) (hv : x.view.floor ≤ capacity) (ho : x.ctl.state = .off) :
    x.Ok capacity clamp := by
  have hbounds := h.bounds
  exact ⟨by omega, h.off, fun hn => absurd ho hn, fun hn => absurd ho hn, h.integrator⟩

/-- A changed integrator clamp, into whose range the integrator is clamped where it is lowered (R8, R24). -/
theorem RateFlow.Ok.clampIntegrator {old : Nat} (h : x.Ok capacity old) : (x.clampIntegrator clamp).Ok capacity clamp := by
  refine ⟨h.bounds, fun ho => ⟨(h.off ho).1, ?_⟩, h.low, h.high, natAbs_clampInt_le clamp _⟩
  show clampInt _ _ x.ctl.integrator = 0
  rw [(h.off ho).2]
  exact clampInt_of_mem (by omega) (by omega)

theorem RateFlow.Ok.of_clamp {old : Nat} (h : x.Ok capacity old) (hle : old ≤ clamp) : x.Ok capacity clamp :=
  ⟨h.bounds, h.off, h.low, h.high, Nat.le_trans h.integrator hle⟩

/-! ## A computation (R43 to R59) -/

theorem startStage_kept (p : Profile) (n d : Nat) (y : Controller) :
    (startStage p n d y).rate = y.rate ∧ (startStage p n d y).integrator = y.integrator := by
  unfold startStage
  split <;> exact ⟨rfl, rfl⟩

theorem integratorOf_natAbs_le (p : Profile) (y : Controller) (e : Int) (h : y.integrator.natAbs ≤ p.integratorClamp) :
    (integratorOf p y e).natAbs ≤ p.integratorClamp := by
  unfold integratorOf
  split
  · exact h
  · exact natAbs_clampInt_le _ _

/-- The rate controller leaves the rate within its bounds, and the integrator within its clamp. -/
theorem runController_bounds (p : Profile) (floor ceiling n d : Nat) (y : Controller) (hb : floor ≤ min ceiling capacity)
    (hi : y.integrator.natAbs ≤ p.integratorClamp) :
    floor ≤ (runController p floor ceiling capacity n d y).rate ∧
    (runController p floor ceiling capacity n d y).rate ≤ min ceiling capacity ∧
    (runController p floor ceiling capacity n d y).integrator.natAbs ≤ p.integratorClamp := by
  obtain ⟨z, hz⟩ : ∃ z, (runController p floor ceiling capacity n d y).rate = (boundClamp floor ceiling capacity z).toNat :=
    ⟨_, (startStage_kept p n d _).1⟩
  have hint : (runController p floor ceiling capacity n d y).integrator = integratorOf p y (errorOf p y.state n d) :=
    (startStage_kept p n d _).2
  have hmem := clampInt_mem (lo := floor) (hi := ((min ceiling capacity : Nat) : Int)) z (by omega)
  rw [hz, hint, boundClamp]
  exact ⟨by omega, by omega, integratorOf_natAbs_le p y _ hi⟩

/-- A flow whose fields a computation stores (R39, R40, R61). -/
theorem State.computed_ok (s : State) (y : Tally) (f : Flow) (h : RateOk s f) :
    RateFlow.Ok { view := (s.rflow f).view, ctl := s.computed y f } (Table.get s.rate.capacity (s.rflow f).view.port)
      (Table.get s.rate.profiles (s.rflow f).view.profile).integratorClamp := by
  unfold State.computed
  dsimp only
  split
  · next hactive =>
    have hon : (s.rflow f).ctl.state ≠ .off := by
      intro ho
      simp [State.active, State.isOff, ho] at hactive
    have hport : y.port = (s.rflow f).view.port := by
      simp only [State.active, State.boundTo, Bool.and_eq_true, beq_iff_eq] at hactive
      exact hactive.1.1.1.symm
    split
    · exact ⟨h.bounds, h.off, h.low, h.high, h.integrator⟩
    · rw [hport]
      obtain ⟨hlow, hhigh, hint⟩ := runController_bounds (capacity := Table.get s.rate.capacity (s.rflow f).view.port)
        (Table.get s.rate.profiles (s.rflow f).view.profile) (s.rflow f).view.floor (s.rflow f).view.ceiling (s.target y f)
        (y.figure f).delivered { (s.rflow f).ctl with lastTarget := s.target y f } h.bounds h.integrator
      exact ⟨h.bounds, fun ho => absurd ((runController_off ..).1 ho) hon, fun _ => hlow, fun _ => hhigh, hint⟩
  · exact h

/-! ## What the configuration and the views give (R142, R138) -/

/-- The floor of a flow that names a port is within the capacity that the executor holds for the port. -/
theorem floor_le_capacity (hc : ConfigurationOk s) (f : Flow) :
    (Table.get s.cmd.flows f).floor ≤ (Table.get s.cmd.ports (Table.get s.cmd.flows f).port).capacity := by
  obtain ⟨⟨-, hport⟩, -⟩ := hc
  obtain ⟨hreserve, hcapacity⟩ := hport (Table.get s.cmd.flows f).port
  exact Nat.le_trans (floor_le_floorsNaming _ f) (Nat.le_trans hreserve hcapacity)

variable {q : Request} {j : Running} {rest : List Request}

/-- A bound request brings a view whose floor is within its ceiling and within the capacity of its port. -/
theorem bound_ok (hc : ConfigurationOk s) (hv : ViewsOk s) {v : RateView} (hasks : Asks s j (.bound f v) rest) :
    v.floor ≤ min v.ceiling (Table.get s.rate.capacity v.port) := by
  have htodo : todoOf s = .bound f v :: rest := (todoOf_of_running hasks.2.1).trans hasks.2.2
  obtain ⟨-, hports, hsends⟩ := hv
  have hnone : commitOf s = none := commit_none_of_sends hsends (by rw [htodo]; intros; nofun) (by rw [htodo]; intros; nofun)
  rw [hnone, sendsInOrder_none_iff] at hsends
  obtain ⟨hcurrent, -, hkinds⟩ := hsends
  have hmem : Request.bound f v ∈ todoOf s := by rw [htodo]; exact .head _
  have hv : v = rateViewOf (Table.get s.cmd.flows f) := by simpa [bringsCurrent] using hcurrent _ hmem
  have hnocap : ∀ q ∈ todoOf s, isCapacity q = false := hkinds.resolve_left fun h => Bool.noConfusion (h _ hmem)
  have hport : ∀ e, Table.get s.rate.capacity e = (Table.get s.cmd.ports e).capacity := fun e =>
    (hports e).resolve_right fun ⟨_, hm⟩ => Bool.noConfusion (hnocap _ hm)
  rw [hport, hv]
  exact Nat.le_min.2 ⟨(hc.1.1 f).1, floor_le_capacity hc f⟩

/-- A capacity request brings a capacity that the floors of the port's flows are within. -/
theorem capacity_ok (hc : ConfigurationOk s) (hv : ViewsOk s) {e : TargetPort} {n : Nat} (hasks : Asks s j (.capacity e n) rest)
    (hport : (s.rflow f).view.port = e) : (s.rflow f).view.floor ≤ n := by
  have htodo : todoOf s = .capacity e n :: rest := (todoOf_of_running hasks.2.1).trans hasks.2.2
  obtain ⟨hflows, -, hsends⟩ := hv
  have hnone : commitOf s = none := commit_none_of_sends hsends (by rw [htodo]; intros; nofun) (by rw [htodo]; intros; nofun)
  rw [hnone, sendsInOrder_none_iff] at hsends
  obtain ⟨hcurrent, -, hkinds⟩ := hsends
  have hmem : Request.capacity e n ∈ todoOf s := by rw [htodo]; exact .head _
  have hn : n = (Table.get s.cmd.ports e).capacity := by simpa [bringsCurrent] using hcurrent _ hmem
  have hnobound : ∀ q ∈ todoOf s, isBound q = false := hkinds.resolve_right fun h => Bool.noConfusion (h _ hmem)
  have hview : (s.rflow f).view = rateViewOf (Table.get s.cmd.flows f) :=
    (hflows f).resolve_right fun ⟨_, hm⟩ => Bool.noConfusion (hnobound _ hm)
  rw [hview] at hport ⊢
  rw [hn, ← hport]
  exact floor_le_capacity hc f

/-! ## Every step -/

/-- A step that writes the Rate Engine's flows, and leaves profiles and capacities. -/
theorem rateOk_of_flow (hp : t.rate.profiles = s.rate.profiles) (hc : t.rate.capacity = s.rate.capacity) {x : RateFlow}
    (ht : t.rflow f = x)
    (hx : x.Ok (Table.get s.rate.capacity x.view.port) (Table.get s.rate.profiles x.view.profile).integratorClamp) :
      RateOk t f := by
  rw [RateOk, ht, hp, hc]
  exact hx

/-- A change of a port's capacity (R7, R143). -/
theorem rateOk_serve_capacity (hc : ConfigurationOk s) (hv : ViewsOk s) {e : TargetPort} {n : Nat}
    (hasks : Asks s j (.capacity e n) rest) (hs : ∀ f, RateOk s f) (k : Flow) :
    RateOk (s.serve { j with todo := rest } (.capacity e n)) k := by
  have hk := hs k
  rw [RateOk] at hk ⊢
  simp only [State.serve, State.withRunning_rflow, State.withRunning_rate, State.withRate_rflow, State.withRate_rate,
    Table.get_tab]
  by_cases hport : (s.rflow k).view.port = e
  · have hfloor := capacity_ok hc hv hasks hport
    by_cases ho : (s.rflow k).ctl.state = .off
    · rw [if_neg (by simp [State.isOff, ho]), hport, Table.get_put_self]
      exact hk.of_capacity hfloor ho
    · rw [if_pos (by simp [State.boundTo, State.isOff, hport, ho]), hport, Table.get_put_self]
      exact hk.lowered hfloor ho
  · rw [if_neg (by simp [State.boundTo, hport]), Table.get_put_ne _ _ hport]
    exact hk

/-- A change of a profile (R24, R146). -/
theorem rateOk_serve_profile (i : ProfileIx) (w : ProfileWrite) (hs : ∀ f, RateOk s f) (k : Flow) :
    RateOk (s.serve j (.profile i w)) k := by
  have hk := hs k
  rw [RateOk] at hk ⊢
  simp only [State.serve, State.withRunning_rflow, State.withRunning_rate, State.withRate_rflow, State.withRate_rate,
    Table.get_tab]
  by_cases hi : (s.rflow k).view.profile = i
  · split
    · have hput : Table.get (Table.put s.rate.profiles i ((Table.get s.rate.profiles i).write w)) (s.rflow k).view.profile =
          (Table.get s.rate.profiles i).write w := by rw [hi, Table.get_put_self]
      show RateFlow.Ok _ _ (Table.get (α := Profile) _ (s.rflow k).view.profile).integratorClamp
      rw [hput]
      exact hk.clampIntegrator
    · next hn =>
      rw [hi, Table.get_put_self]
      rw [hi] at hk
      exact hk.of_clamp (Nat.le_of_not_lt fun h => hn ⟨h, hi⟩)
  · rw [if_neg (fun h => hi h.2), Table.get_put_ne _ _ hi]
    exact hk

/-- A reshape (R154, R155). -/
theorem rateOk_serve_reshape (x : Scope) (a : Action) (hs : ∀ f, RateOk s f) (k : Flow) :
    RateOk (s.serve j (.reshape x a)) k := by
  refine rateOk_of_flow (s := s) (x := if s.reshapes x k then (s.rflow k).reshape a else s.rflow k) ?_ ?_ ?_ ?_
  · simp only [State.serve, State.withRunning_rate, State.withRate_rate]
  · simp only [State.serve, State.withRunning_rate, State.withRate_rate]
  · simp only [State.serve, State.withRunning_rflow, State.withRate_rflow, Table.get_tab]
  · split
    · have := RateFlow.Ok.reshape (hs k) a
      cases a <;> exact this
    · exact hs k

/-- A computation (R34). -/
theorem rateOk_compute (y : Tally) (hs : ∀ f, RateOk s f) (k : Flow) : RateOk (s.compute y) k := by
  refine rateOk_of_flow (s := s) (x := { view := (s.rflow k).view, ctl := s.computed y k }) ?_ ?_ ?_ (s.computed_ok y k (hs k))
  · simp only [State.compute, State.setArb_rate, State.withRate_rate]
  · simp only [State.compute, State.setArb_rate, State.withRate_rate]
  · simp only [State.compute, State.setArb_rflow, State.withRate_rflow, Table.get_tab]

theorem rateOk_powerOn (s : State) (f : Flow) : RateOk s.powerOn f := by
  have hf : s.powerOn.rflow f = { view := rateViewOf powerOnFlowConfig, ctl := powerOnController } := Table.get_const _ f
  have hcap : ∀ e, Table.get s.powerOn.rate.capacity e = powerOnPort.capacity := fun e => Table.get_const _ e
  rw [RateOk, hf, hcap]
  exact ⟨by decide, fun _ => ⟨rfl, rfl⟩, fun hn => absurd rfl hn, fun hn => absurd rfl hn, Nat.zero_le _⟩

/-- The taking of a request. -/
theorem rateOk_serve (hc : ConfigurationOk s) (hv : ViewsOk s) (hasks : Asks s j q rest) (hs : ∀ f, RateOk s f) (k : Flow) :
    RateOk (s.serve { j with todo := rest } q) k := by
  have hserve := changesOnly_serve s { j with todo := rest } q
  have kept : reachesRateFlows q = false → RateOk (s.serve { j with todo := rest } q) k := by
    intro hr
    have hf : Part.rateFlow k ∉ requestParts { j with todo := rest } q := by
      cases q <;> first | (simp [requestParts]; done) | cases hr
    have hcap : Part.capacities ∉ requestParts { j with todo := rest } q := by
      cases q <;> first | (simp [requestParts]; done) | cases hr
    have hprof : Part.profiles ∉ requestParts { j with todo := rest } q := by
      cases q <;> first | (simp [requestParts]; done) | cases hr
    exact rateOk_of_flow (hserve _ hprof) (hserve _ hcap) (hserve _ hf) (hs k)
  cases q with
  | bound f v =>
    refine rateOk_of_flow (s := s) rfl rfl (State.setRflow_rflow ..) ?_
    split
    · exact (hs f).rebound (bound_ok hc hv hasks)
    · exact hs k
  | startEntry f =>
    by_cases ho : s.isOff f = true
    · have ht : s.serve { j with todo := rest } (.startEntry f) =
          (s.setRflow f (s.rflow f).start).withRunning (some { j with todo := rest }) := by rw [State.serve, if_pos ho]
      rw [ht]
      refine rateOk_of_flow (s := s) rfl rfl (State.setRflow_rflow ..) ?_
      split
      · exact RateFlow.Ok.start (hs f)
      · exact hs k
    · rw [State.serve, if_neg ho]
      exact hs k
  | offEntry f =>
    refine rateOk_of_flow (s := s) rfl rfl (State.setRflow_rflow ..) ?_
    split
    · exact RateFlow.Ok.offEntry (hs f)
    · exact hs k
  | capacity e n => exact rateOk_serve_capacity hc hv hasks hs k
  | profile i w => exact rateOk_serve_profile i w hs k
  | reshape x a =>
    exact rateOk_serve_reshape x a hs k
  | _ => exact kept rfl

theorem rateOk_of_moves (h : Moves s c t) (hc : ConfigurationOk s) (hv : ViewsOk s) (hs : ∀ f, RateOk s f) (k : Flow) :
    RateOk t k := by
  by_cases hpower : c = .powerOnReset
  · obtain rfl | rfl := moves_powerOn h hpower
    · exact rateOk_powerOn s k
    · exact hs k
  have hframe := moves_changesOnly h hpower
  have outside : .rateFlow k ∉ reach c → .capacities ∉ reach c → .profiles ∉ reach c → RateOk t k :=
    fun hf hcap hp => rateOk_of_flow (hframe _ hp) (hframe _ hcap) (hframe _ hf) (hs k)
  cases h with
  | powerOn => exact absurd rfl hpower
  | same => exact hs k
  | requestTaken j q rest hasks => exact rateOk_serve hc hv hasks hs k
  | tallyDiscarded => exact hs k
  | tallyComputed _ x rest => exact rateOk_compute (s := s.withRate { s.rate with queue := rest }) x hs k
  | @commandTaken _ _ _ p r =>
    have ht := changesOnly_take s p r
    exact rateOk_of_flow (ht .profiles (by simp [takingParts])) (ht .capacities (by simp [takingParts]))
      (ht (.rateFlow k) (by simp [takingParts])) (hs k)
  | recordPassed _ _ hh =>
    refine outside ?_ ?_ ?_ <;> simp [reach_of_handler hh, allArbiters, allMonitors]
  | faultTaken _ src | posted _ src => refine outside ?_ ?_ ?_ <;> cases src <;> simp [reach, sourcePart]
  | _ => refine outside ?_ ?_ ?_ <;> simp [reach, allArbiters, allMonitors, allWaiting, allHeld]

/-- Settles O58: the bounds and the clamp are what every request and every computation clamps into. -/
theorem stepKeepsControllerBounds : Obligations.StepKeepsControllerBounds := by
  intro s t hc hv hs h
  rw [controllersOk_iff] at hs ⊢
  obtain ⟨-, rfl⟩ | ⟨c, rest, -, hm⟩ := step_cases h
  · exact hs
  · exact rateOk_of_moves (s := { s with pending := rest }) hm hc hv hs

end Sys2Proof.Machine
end

section
/-! PROOFS. The accounts of a flow and the grants that they are made of: a ledger of the busy slots, for O59. -/

namespace Sys2Proof.Machine

open Sys2Proof.Safety

variable {s t : State} {c : Instr} {e k : TargetPort} {f : Flow} {n m : Slot} {g : Grant}

/-! ## Sums over the busy slots (R12) -/

/-- What a slot counts for a flow, by what each of the flow's grants counts. -/
def weigh (w : Grant → Nat) (f : Flow) (o : Option Grant) : Nat :=
  match o with
  | some g => if g.flow = f then w g else 0
  | none => 0

/-- What the slots of one port count for a flow. -/
def atPort (w : Grant → Nat) (f : Flow) (x : Slot → Option Grant) : Nat :=
  ((List.finRange 8).map fun n => weigh w f (x n)).sum

/-- What the slots of every port count for a flow. -/
def total (w : Grant → Nat) (f : Flow) (x : TargetPort → Slot → Option Grant) : Nat :=
  ((List.finRange 8).map fun e => atPort w f (x e)).sum

variable {w : Grant → Nat} {x y : Slot → Option Grant} {X Y : TargetPort → Slot → Option Grant}

/-- The grants of a flow in a list of slots. -/
theorem sum_filterMap_grants (w : Grant → Nat) (f : Flow) (x : Slot → Option Grant) (l : List Slot) :
    ((l.filterMap fun n => (x n).bind fun g => if g.flow = f then some g else none).map w).sum =
      (l.map fun n => weigh w f (x n)).sum := by
  induction l with
  | nil => rfl
  | cons n l ih =>
    rw [List.map_cons, List.sum_cons, ← ih]
    cases hx : x n with
    | none => simp [hx, weigh]
    | some g => by_cases hg : g.flow = f <;> simp [hx, hg, weigh]

/-- The grants of a flow, in the statements' words. -/
theorem sum_grantsFor (s : State) (f : Flow) (w : Grant → Nat) : ((grantsFor s f).map w).sum = total w f (grantAt s) := by
  unfold grantsFor total
  have h : ∀ l : List TargetPort,
      ((l.flatMap fun e => (List.finRange 8).filterMap fun n => (grantAt s e n).bind fun g =>
        if g.flow = f then some g else none).map
        w).sum = (l.map fun e => atPort w f (grantAt s e)).sum := by
    intro l
    induction l with
    | nil => rfl
    | cons e l ih =>
      rw [List.flatMap_cons, List.map_append, List.sum_append, ih, sum_filterMap_grants, List.map_cons, List.sum_cons]
      rfl
  exact h _

theorem length_grantsFor (s : State) (f : Flow) : (grantsFor s f).length = total (fun _ => 1) f (grantAt s) := by
  rw [← sum_grantsFor, List.map_const', List.sum_replicate, smul_eq_mul, mul_one]

/-- One slot of a port changes. -/
theorem atPort_change (n : Slot) (h : ∀ m ≠ n, y m = x m) :
    atPort w f y + weigh w f (x n) = atPort w f x + weigh w f (y n) :=
  sum_map_change (g := fun m => weigh w f (x m)) (h := fun m => weigh w f (y m)) n fun m hm => by rw [h m hm]

/-- The slots of one port change. -/
theorem total_change (e : TargetPort) (h : ∀ k ≠ e, Y k = X k) :
    total w f Y + atPort w f (X e) = total w f X + atPort w f (Y e) :=
  sum_map_change (g := fun k => atPort w f (X k)) (h := fun k => atPort w f (Y k)) e fun k hk => by rw [h k hk]

/-- What some grants count for a flow. -/
def gsum (w : Grant → Nat) (f : Flow) (gs : List (Slot × Grant)) : Nat :=
  ((gs.filter fun y => y.2.flow == f).map fun y => w y.2).sum

theorem gsum_cons (w : Grant → Nat) (f : Flow) (z : Slot × Grant) (gs : List (Slot × Grant)) :
    gsum w f (z :: gs) = weigh w f (some z.2) + gsum w f gs := by
  by_cases h : z.2.flow = f <;> simp [gsum, weigh, h]

theorem countOf_eq (gs : List (Slot × Grant)) (f : Flow) : countOf gs f = gsum (fun _ => 1) f gs := by
  rw [countOf, gsum, List.map_const', List.sum_replicate, smul_eq_mul, mul_one]

/-- The busy slots of an arbiter that meet a test. -/
def busyWith (x : Slot → Option Grant) (test : Slot × Grant → Bool) (l : List Slot) : List (Slot × Grant) :=
  (l.filterMap fun n => (x n).map fun g => (n, g)).filter test

/-- A slot once the grants that meet a test are gone. -/
def without (x : Slot → Option Grant) (test : Slot × Grant → Bool) (n : Slot) : Option Grant :=
  (x n).filter fun g => !test (n, g)

/-- A slot of which no grant goes. -/
theorem without_of_kept {test : Slot × Grant → Bool} (h : ∀ g ∈ x n, test (n, g) = false) : without x test n = x n := by
  unfold without
  cases hx : x n with
  | none => rfl
  | some g => simp [h g hx]

theorem without_of_gone {test : Slot × Grant → Bool} (hx : x n = some g) (h : test (n, g) = true) : without x test n = none := by
  simp [without, hx, h]

theorem busyWith_cons_of_kept {test : Slot × Grant → Bool} (h : ∀ g ∈ x n, test (n, g) = false) (l : List Slot) :
    busyWith x test (n :: l) = busyWith x test l := by
  unfold busyWith
  cases hx : x n with
  | none => simp [hx]
  | some g => simp [hx, h g hx]

theorem busyWith_cons_of_gone {test : Slot × Grant → Bool} (hx : x n = some g) (h : test (n, g) = true) (l : List Slot) :
    busyWith x test (n :: l) = (n, g) :: busyWith x test l := by
  simp [busyWith, hx, h]

/-- What the slots count, with and without the grants that go. -/
theorem sum_without (w : Grant → Nat) (f : Flow) (x : Slot → Option Grant) (test : Slot × Grant → Bool) (l : List Slot) :
    (l.map fun n => weigh w f (x n)).sum = (l.map fun n => weigh w f (without x test n)).sum + gsum w f (busyWith x test l) := by
  induction l with
  | nil => rfl
  | cons n l ih =>
    rw [List.map_cons, List.map_cons, List.sum_cons, List.sum_cons, ih]
    by_cases h : ∀ g ∈ x n, test (n, g) = false
    · rw [without_of_kept h, busyWith_cons_of_kept h, Nat.add_assoc]
    · obtain ⟨g, hg⟩ := Classical.not_forall.1 h
      obtain ⟨hx, ht⟩ := Classical.not_imp.1 hg
      rw [Bool.not_eq_false] at ht
      rw [without_of_gone hx ht, busyWith_cons_of_gone hx ht, gsum_cons, hx]
      simp only [weigh]
      omega

theorem atPort_without (w : Grant → Nat) (f : Flow) (x : Slot → Option Grant) (test : Slot × Grant → Bool) :
    atPort w f x = atPort w f (without x test) + gsum w f (busyWith x test (List.finRange 8)) :=
  sum_without w f x test _

/-! ## The ledger -/

/-- The busy slots, and what the arbiters hold of their flows. -/
structure Ledger where
  grant : TargetPort → Slot → Option Grant
  holder : Flow → Option TargetPort
  outstanding : Flow → Nat
  count : Flow → Nat

/-- The ledger in a state. -/
def ledgerOf (s : State) : Ledger :=
  { grant := grantAt s, holder := fun f => (s.flow f).holder, outstanding := fun f => (s.flow f).demand.outstanding
    count := fun f => (s.flow f).demand.grantCount }

/-- Every grant is at the arbiter that holds its flow and within its size, and the accounts are those of the grants. -/
structure Ledger.Ok (l : Ledger) : Prop where
  held : ∀ e n, ∀ g ∈ l.grant e n, l.holder g.flow = some e
  size : ∀ e n, ∀ g ∈ l.grant e n, 1 ≤ g.remaining ∧ g.remaining ≤ g.issued ∧ g.issued ≤ 1024
  outstanding : ∀ f, l.outstanding f = total (·.remaining) f l.grant
  count : ∀ f, l.count f = total (fun _ => 1) f l.grant

variable {l l' : Ledger}

theorem weigh_congr {o o' : Option Grant} (h : o'.map (fun g => (g.flow, w g)) = o.map fun g => (g.flow, w g)) :
    weigh w f o' = weigh w f o := by
  cases o <;> cases o' <;> simp_all [weigh]

/-- The flow, the issued and the remaining cells of a grant. -/
def Grant.account (g : Grant) : Flow × Nat × Nat := (g.flow, g.issued, g.remaining)

/-- A ledger whose grants differ in their ages only. -/
theorem Ledger.Ok.of_account (h : l.Ok) (hg : ∀ e n, (l'.grant e n).map Grant.account = (l.grant e n).map Grant.account)
    (hh : l'.holder = l.holder) (ho : l'.outstanding = l.outstanding) (hc : l'.count = l.count) : l'.Ok := by
  have same : ∀ e n, ∀ g ∈ l'.grant e n, ∃ g₀ ∈ l.grant e n, g₀.account = g.account := fun e n g hg' => by
    have := hg e n
    rw [Option.mem_def.1 hg', Option.map_some] at this
    obtain ⟨g₀, h₀, heq⟩ := Option.map_eq_some_iff.1 this.symm
    exact ⟨g₀, h₀, heq⟩
  have sums : ∀ (w : Grant → Nat) (v : Flow × Nat × Nat → Nat), (∀ g, w g = v g.account) →
      ∀ f, total w f l'.grant = total w f l.grant := by
    intro w v hw f
    unfold total atPort
    refine congrArg List.sum (List.map_congr_left fun e _ => congrArg List.sum (List.map_congr_left fun n _ => weigh_congr ?_))
    have hfun : (fun g : Grant => (g.flow, w g)) = (fun a => (a.1, v a)) ∘ Grant.account := by
      funext g; rw [hw]; rfl
    rw [hfun, ← Option.map_map, ← Option.map_map, hg]
  refine ⟨fun e n g hg' => ?_, fun e n g hg' => ?_, fun f => ?_, fun f => ?_⟩
  · obtain ⟨g₀, h₀, heq⟩ := same e n g hg'
    rw [hh, ← (Prod.mk.inj heq).1]
    exact h.held e n g₀ h₀
  · obtain ⟨g₀, h₀, heq⟩ := same e n g hg'
    have := h.size e n g₀ h₀
    simp only [Grant.account, Prod.mk.injEq] at heq
    omega
  · rw [ho, h.outstanding, sums (·.remaining) (fun a => a.2.2) fun _ => rfl]
  · rw [hc, h.count, sums (fun _ => 1) (fun _ => 1) fun _ => rfl]

/-- Grants of a port that meet a test retire: they leave their slots and their flows' accounts (R82). -/
def Ledger.retire (l : Ledger) (e : TargetPort) (test : Slot × Grant → Bool) : Ledger :=
  { l with
    grant := fun k => if k = e then without (l.grant e) test else l.grant k
    outstanding := fun f => l.outstanding f - gsum (·.remaining) f (busyWith (l.grant e) test (List.finRange 8))
    count := fun f => l.count f - gsum (fun _ => 1) f (busyWith (l.grant e) test (List.finRange 8)) }

/-- A grant left after others retired. -/
theorem mem_retire {test : Slot × Grant → Bool} (h : g ∈ (l.retire e test).grant k n) : g ∈ l.grant k n := by
  simp only [Ledger.retire] at h
  split at h
  · next hk =>
    subst hk
    exact (Option.filter_eq_some_iff.1 h).1
  · exact h

theorem total_retire (w : Grant → Nat) (f : Flow) (l : Ledger) (e : TargetPort) (test : Slot × Grant → Bool) :
    total w f l.grant = total w f (l.retire e test).grant + gsum w f (busyWith (l.grant e) test (List.finRange 8)) := by
  have hchange := total_change (w := w) (f := f) (X := l.grant) (Y := (l.retire e test).grant) e fun k hk => if_neg hk
  have hself : (l.retire e test).grant e = without (l.grant e) test := if_pos rfl
  rw [hself, atPort_without w f (l.grant e) test] at hchange
  omega

theorem Ledger.Ok.retire (h : l.Ok) (e : TargetPort) (test : Slot × Grant → Bool) : (l.retire e test).Ok := by
  refine ⟨fun k n g hg => h.held k n g (mem_retire hg), fun k n g hg => h.size k n g (mem_retire hg), fun f => ?_, fun f => ?_⟩
  · have := total_retire (·.remaining) f l e test
    show l.outstanding f - _ = _
    rw [h.outstanding]; omega
  · have := total_retire (fun _ => 1) f l e test
    show l.count f - _ = _
    rw [h.count]; omega

/-- One slot's grant is written, and its flow's accounts with it. -/
def Ledger.write (l : Ledger) (e : TargetPort) (n : Slot) (g : Grant) (outstanding count : Nat) : Ledger :=
  { l with
    grant := fun k m => if k = e ∧ m = n then some g else l.grant k m
    outstanding := fun f => if f = g.flow then outstanding else l.outstanding f
    count := fun f => if f = g.flow then count else l.count f }

theorem total_write (w : Grant → Nat) (f : Flow) (l : Ledger) (e : TargetPort) (n : Slot) (g : Grant) (i j : Nat) :
    total w f (l.write e n g i j).grant + weigh w f (l.grant e n) = total w f l.grant + weigh w f (some g) := by
  have hports := total_change (w := w) (f := f) (X := l.grant) (Y := (l.write e n g i j).grant) e fun k hk => by
    funext m
    exact if_neg fun h => hk h.1
  have hslots := atPort_change (w := w) (f := f) (x := l.grant e) (y := (l.write e n g i j).grant e) n fun m hm =>
    if_neg fun h => hm h.2
  have hself : (l.write e n g i j).grant e n = some g := if_pos ⟨rfl, rfl⟩
  rw [hself] at hslots
  omega

/-- The slot written held nothing, or a grant of the same flow. -/
theorem Ledger.Ok.write (h : l.Ok) {i j : Nat} (hheld : l.holder g.flow = some e)
    (hsize : 1 ≤ g.remaining ∧ g.remaining ≤ g.issued ∧ g.issued ≤ 1024)
    (hold : ∀ g₀ ∈ l.grant e n, g₀.flow = g.flow)
    (hi : i + weigh (·.remaining) g.flow (l.grant e n) = l.outstanding g.flow + g.remaining)
    (hj : j + weigh (fun _ => 1) g.flow (l.grant e n) = l.count g.flow + 1) : (l.write e n g i j).Ok := by
  have other : ∀ (w : Grant → Nat) (f : Flow), f ≠ g.flow → weigh w f (l.grant e n) = 0 ∧ weigh w f (some g) = 0 := by
    intro w f hf
    refine ⟨?_, by simp [weigh, Ne.symm hf]⟩
    cases ho : l.grant e n with
    | none => rfl
    | some g₀ =>
      have := hold g₀ ho
      simp [weigh, this, Ne.symm hf]
  have self : ∀ w : Grant → Nat, weigh w g.flow (some g) = w g := fun w => by simp [weigh]
  have mem : ∀ k m, ∀ g' ∈ (l.write e n g i j).grant k m, (k = e ∧ g' = g) ∨ g' ∈ l.grant k m := by
    intro k m g' hg'
    simp only [Ledger.write] at hg'
    split at hg'
    · next hkm => exact .inl ⟨hkm.1, (Option.some.inj hg').symm⟩
    · exact .inr hg'
  refine ⟨fun k m g' hg' => ?_, fun k m g' hg' => ?_, fun f => ?_, fun f => ?_⟩
  · obtain ⟨rfl, rfl⟩ | hg' := mem k m g' hg'
    · exact hheld
    · exact h.held k m g' hg'
  · obtain ⟨-, rfl⟩ | hg' := mem k m g' hg'
    · exact hsize
    · exact h.size k m g' hg'
  · have ht := total_write (·.remaining) f l e n g i j
    show (if f = g.flow then i else l.outstanding f) = _
    split
    · next hf =>
      subst hf
      rw [self, ← h.outstanding] at ht
      omega
    · next hf =>
      obtain ⟨h₁, h₂⟩ := other (·.remaining) f hf
      rw [h₁, h₂, ← h.outstanding] at ht
      omega
  · have ht := total_write (fun _ => 1) f l e n g i j
    show (if f = g.flow then j else l.count f) = _
    split
    · next hf =>
      subst hf
      rw [self, ← h.count] at ht
      omega
    · next hf =>
      obtain ⟨h₁, h₂⟩ := other (fun _ => 1) f hf
      rw [h₁, h₂, ← h.count] at ht
      omega

/-- What a port counts for a flow of which it has no grant. -/
theorem total_eq_zero {X : TargetPort → Slot → Option Grant} (h : ∀ e n, ∀ g ∈ X e n, g.flow ≠ f) : total w f X = 0 := by
  refine List.sum_eq_zero_iff.2 fun i hi => ?_
  obtain ⟨e, -, rfl⟩ := List.mem_map.1 hi
  refine List.sum_eq_zero_iff.2 fun j hj => ?_
  obtain ⟨n, -, rfl⟩ := List.mem_map.1 hj
  cases hx : X e n with
  | none => rfl
  | some g => exact if_neg (h e n g hx)

/-- One slot counts at most as much as all. -/
theorem weigh_le_total (X : TargetPort → Slot → Option Grant) (e : TargetPort) (n : Slot) : weigh w f (X e n) ≤ total w f X := by
  have hport : weigh w f (X e n) ≤ atPort w f (X e) :=
    List.le_sum_of_mem (List.mem_map_of_mem (f := fun n => weigh w f (X e n)) (List.mem_finRange n))
  exact Nat.le_trans hport (List.le_sum_of_mem (List.mem_map_of_mem (f := fun e => atPort w f (X e)) (List.mem_finRange e)))

/-- A ledger in which the flows that differ have no grants, and nothing in their accounts. -/
theorem Ledger.Ok.of_grantless (h : l.Ok) (hg : l'.grant = l.grant)
    (hf : ∀ f, (l'.holder f = l.holder f ∧ l'.outstanding f = l.outstanding f ∧ l'.count f = l.count f) ∨
      ((∀ e n, ∀ g ∈ l.grant e n, g.flow ≠ f) ∧ l'.outstanding f = 0 ∧ l'.count f = 0)) : l'.Ok := by
  refine ⟨fun e n g hm => ?_, fun e n g hm => h.size e n g (hg ▸ hm), fun f => ?_, fun f => ?_⟩
  · rw [hg] at hm
    obtain ⟨hh, -⟩ | ⟨hnone, -⟩ := hf g.flow
    · rw [hh]; exact h.held e n g hm
    · exact absurd rfl (hnone e n g hm)
  · rw [hg]
    obtain ⟨-, ho, -⟩ | ⟨hnone, ho, -⟩ := hf f
    · rw [ho]; exact h.outstanding f
    · rw [ho, total_eq_zero hnone]
  · rw [hg]
    obtain ⟨-, -, hc⟩ | ⟨hnone, -, hc⟩ := hf f
    · rw [hc]; exact h.count f
    · rw [hc, total_eq_zero hnone]

/-- A flow with no grants is the flow of none. -/
theorem Ledger.Ok.no_grant (h : l.Ok) (hf : l.count f = 0) (hg : g ∈ l.grant e n) : g.flow ≠ f := by
  intro he
  have htotal : total (fun _ => 1) f l.grant = 0 := (h.count f).symm.trans hf
  have hport : atPort (fun _ => 1) f (l.grant e) = 0 := by
    have := List.sum_eq_zero_iff.1 htotal (atPort (fun _ => 1) f (l.grant e)) (List.mem_map_of_mem (List.mem_finRange e))
    exact this
  have hslot : weigh (fun _ => 1) f (l.grant e n) = 0 :=
    List.sum_eq_zero_iff.1 hport _ (List.mem_map_of_mem (f := fun n => weigh (fun _ => 1) f (l.grant e n)) (List.mem_finRange n))
  rw [Option.mem_def.1 hg] at hslot
  simp [weigh, he] at hslot

end Sys2Proof.Machine
end

section
/-! PROOFS. O59: the arbiters' operations and the command in execution keep the ledger. -/

namespace Sys2Proof.Machine

open Sys2Proof.Safety

variable {s t : State} {c : Instr} {e k : TargetPort} {f : Flow} {n m : Slot} {g : Grant}

/-! ## The arbiters' operations on the ledger -/

/-- What the ledger has of a flow. -/
def ArbiterFlow.account (x : ArbiterFlow) : Option TargetPort × Nat × Nat :=
  (x.holder, x.demand.outstanding, x.demand.grantCount)

theorem ledger_ext {l l' : Ledger} (hg : ∀ e n, l'.grant e n = l.grant e n) (hh : ∀ f, l'.holder f = l.holder f)
    (ho : ∀ f, l'.outstanding f = l.outstanding f) (hc : ∀ f, l'.count f = l.count f) : l' = l := by
  cases l; cases l'
  congr
  · exact funext fun e => funext (hg e)
  · exact funext hh
  · exact funext ho
  · exact funext hc

theorem ledgerOf_grant (s : State) (e : TargetPort) : (ledgerOf s).grant e = grantAt s e := rfl

theorem ledgerOf_holder (s : State) (f : Flow) : (ledgerOf s).holder f = (s.flow f).holder := rfl

theorem ledgerOf_outstanding (s : State) (f : Flow) : (ledgerOf s).outstanding f = (s.flow f).demand.outstanding := rfl

theorem ledgerOf_count (s : State) (f : Flow) : (ledgerOf s).count f = (s.flow f).demand.grantCount := rfl

theorem grantAt_eq (s : State) (e : TargetPort) (n : Slot) : grantAt s e n = (Table.get (s.core e).slots n).grant := rfl

/-- A step that leaves the slots and the flows' accounts. -/
theorem ledgerOf_congr (hs : ∀ e, (t.core e).slots = (s.core e).slots) (hf : ∀ f, (t.flow f).account = (s.flow f).account) :
    ledgerOf t = ledgerOf s := by
  refine ledger_ext (fun e n => ?_) (fun f => congrArg Prod.fst (hf f)) (fun f => congrArg (·.2.1) (hf f))
    fun f => congrArg (·.2.2) (hf f)
  show grantAt t e n = grantAt s e n
  rw [grantAt_eq, grantAt_eq, hs]

/-- The grants that a retirement takes, as the model lists them. -/
theorem busy_filter_eq (s : State) (e : TargetPort) (test : Slot × Grant → Bool) :
    (s.arb e).busy.filter test = busyWith (grantAt s e) test (List.finRange 8) := rfl

theorem any_busyWith (x : Slot → Option Grant) (test : Slot × Grant → Bool) (n : Slot) :
    ((busyWith x test (List.finRange 8)).any fun y => y.1 == n) = true ↔ ∃ g ∈ x n, test (n, g) = true := by
  simp only [busyWith, List.any_eq_true, List.mem_filter, List.mem_filterMap, List.mem_finRange, true_and, Option.map_eq_some_iff,
    beq_iff_eq]
  constructor
  · rintro ⟨y, ⟨⟨m, g, hg, rfl⟩, ht⟩, rfl⟩
    exact ⟨g, hg, ht⟩
  · rintro ⟨g, hg, ht⟩
    exact ⟨(n, g), ⟨⟨n, g, hg, rfl⟩, ht⟩, rfl⟩

theorem grantAt_retire (s : State) (e : TargetPort) (test : Slot × Grant → Bool) (k : TargetPort) (n : Slot) :
    grantAt (s.retire e (busyWith (grantAt s e) test (List.finRange 8))) k n =
      if k = e then without (grantAt s e) test n else grantAt s k n := by
  by_cases hk : k = e
  · subst hk
    rw [if_pos rfl, grantAt, State.retire_arb_self, Table.get_tab]
    split
    · next h =>
      obtain ⟨g, hg, ht⟩ := (any_busyWith _ _ _).1 h
      rw [without_of_gone hg ht]
    · next h =>
      rw [without_of_kept fun g hg => Bool.eq_false_iff.2 fun ht => h ((any_busyWith _ _ _).2 ⟨g, hg, ht⟩)]
      rfl
  · rw [if_neg hk, grantAt, State.retire_arb_ne _ _ hk]
    rfl

theorem account_retire (s : State) (e : TargetPort) (gone : List (Slot × Grant)) (f : Flow) :
    ((s.retire e gone).flow f).account =
      ((s.flow f).holder, (s.flow f).demand.outstanding - gsum (·.remaining) f gone,
        (s.flow f).demand.grantCount - gsum (fun _ => 1) f gone) := by
  rw [State.retire_flow, ← countOf_eq]
  rfl

/-- Grants retire in the ledger as at their arbiter (R82). -/
theorem ledgerOf_retire (s : State) (e : TargetPort) (test : Slot × Grant → Bool) :
    ledgerOf (s.retire e (busyWith (grantAt s e) test (List.finRange 8))) = (ledgerOf s).retire e test := by
  have accounts := fun f => account_retire s e (busyWith (grantAt s e) test (List.finRange 8)) f
  simp only [ArbiterFlow.account, Prod.mk.injEq] at accounts
  refine ledger_ext (fun k n => ?_) (fun f => ?_) (fun f => ?_) fun f => ?_
  · rw [ledgerOf_grant, grantAt_retire, Ledger.retire]
    dsimp only [ledgerOf_grant]
    split <;> rfl
  · rw [ledgerOf_holder, (accounts f).1]; rfl
  · rw [ledgerOf_outstanding, (accounts f).2.1]; rfl
  · rw [ledgerOf_count, (accounts f).2.2]; rfl

/-- The one grant of a slot. -/
theorem busyWith_slot {x : Slot → Option Grant} (hx : x n = some g) :
    busyWith x (fun y => y.1 == n) (List.finRange 8) = [(n, g)] := by
  have h : ∀ l : List Slot, l.Nodup → busyWith x (fun y => y.1 == n) l = if n ∈ l then [(n, g)] else [] := by
    intro l
    induction l with
    | nil => exact fun _ => rfl
    | cons m l ih =>
      intro hnodup
      obtain ⟨hm, hl⟩ := List.nodup_cons.1 hnodup
      by_cases hmn : m = n
      · subst hmn
        rw [busyWith_cons_of_gone hx (by simp), ih hl, if_neg hm, if_pos (.head _)]
      · rw [busyWith_cons_of_kept (fun g _ => by simpa using hmn), ih hl]
        simp [Ne.symm hmn]
  rw [h _ (List.nodup_finRange 8), if_pos (List.mem_finRange n)]

theorem ledgerOf_retire_slot (s : State) {e : TargetPort} (hx : grantAt s e n = some g) :
    ledgerOf (s.retire e [(n, g)]) = (ledgerOf s).retire e fun y => y.1 == n := by
  rw [← busyWith_slot hx, ledgerOf_retire]

/-- A grant written into its slot. -/
theorem ledgerOf_write {x : GrantSlot} (hx : x.grant = some g)
    (hslots : ∀ k, (t.core k).slots = if k = e then Table.put (s.core e).slots n x else (s.core k).slots) {i j : Nat}
    (hflow : ∀ f, (t.flow f).account = if f = g.flow then ((s.flow f).holder, i, j) else (s.flow f).account) :
    ledgerOf t = (ledgerOf s).write e n g i j := by
  refine ledger_ext (fun k m => ?_) (fun f => ?_) (fun f => ?_) fun f => ?_
  · show grantAt t k m = if k = e ∧ m = n then some g else grantAt s k m
    rw [grantAt_eq, hslots]
    by_cases hk : k = e
    · subst hk
      rw [if_pos rfl, Table.get_put]
      by_cases hm : m = n
      · rw [if_pos hm, if_pos ⟨rfl, hm⟩, hx]
      · rw [if_neg hm, if_neg (fun h => hm h.2)]; rfl
    · rw [if_neg hk, if_neg (fun h => hk h.1)]; rfl
  · have := congrArg Prod.fst (hflow f)
    split at this <;> exact this
  · show (t.flow f).demand.outstanding = if f = g.flow then i else (s.flow f).demand.outstanding
    have := congrArg (·.2.1) (hflow f)
    split at this <;> rename_i hf
    · rw [if_pos hf]; exact this
    · rw [if_neg hf]; exact this
  · show (t.flow f).demand.grantCount = if f = g.flow then j else (s.flow f).demand.grantCount
    have := congrArg (·.2.2) (hflow f)
    split at this <;> rename_i hf
    · rw [if_pos hf]; exact this
    · rw [if_neg hf]; exact this

/-- The ledger of a state is in order. -/
def LedgerOk (s : State) : Prop := (ledgerOf s).Ok

theorem LedgerOk.congr (h : LedgerOk s) (hs : ∀ e, (t.core e).slots = (s.core e).slots)
    (hf : ∀ f, (t.flow f).account = (s.flow f).account) : LedgerOk t := by
  rw [LedgerOk, ledgerOf_congr hs hf]; exact h

/-- Ages rise (R79). -/
theorem LedgerOk.aged (h : LedgerOk s) (e : TargetPort) : LedgerOk (s.setArb e (s.arb e).aged) := by
  refine Ledger.Ok.of_account h (fun k n => ?_) rfl rfl rfl
  show (grantAt _ k n).map _ = (grantAt s k n).map _
  rw [grantAt, State.setArb_arb]
  split
  · next hk =>
    subst hk
    rw [Arbiter.aged, Table.get_tab, Option.map_map]
    rfl
  · rfl

theorem LedgerOk.retire (h : LedgerOk s) (e : TargetPort) (test : Slot × Grant → Bool) :
    LedgerOk (s.retire e ((s.arb e).busy.filter test)) := by
  rw [LedgerOk, busy_filter_eq, ledgerOf_retire]
  exact Ledger.Ok.retire h e test

theorem LedgerOk.age (h : LedgerOk s) (e : TargetPort) : LedgerOk (s.age e) := by
  have hretired := (h.aged e).retire e fun x => ((s.setArb e (s.arb e).aged).arb e).view.lifetime ≤ x.2.age
  refine hretired.congr (fun k => ?_) fun f => ?_
  · unfold State.age
    dsimp only
    rw [State.core_drainSets, State.core_setReports, State.core_hand]
    rfl
  · unfold State.age
    dsimp only
    rw [State.drainSets_flow, State.setReports_flow, State.hand_flow]
    rfl

/-- The other demand fields of a flow are not the ledger's. -/
theorem account_setDemand {d : Demand} (ho : d.outstanding = (s.flow f).demand.outstanding)
    (hc : d.grantCount = (s.flow f).demand.grantCount) (k : Flow) : ((s.setDemand f d).flow k).account = (s.flow k).account := by
  rw [State.setDemand_flow]
  split
  · next hk => rw [hk, ArbiterFlow.account, ho, hc]; rfl
  · rfl

theorem ledgerOf_credit (s : State) (f : Flow) (j : Nat) : ledgerOf (s.credit f j) = ledgerOf s :=
  ledgerOf_congr (fun _ => congrArg ArbiterCore.slots (State.core_setDemand ..)) (account_setDemand rfl rfl)

theorem LedgerOk.refund (h : LedgerOk s) (f : Flow) (cells : Nat) : LedgerOk (s.refund f cells) := by
  unfold State.refund
  split
  · exact h
  · exact h.congr (fun _ => congrArg ArbiterCore.slots (State.core_setDemand ..)) (account_setDemand rfl rfl)

/-- Some cells of a grant have moved (R99). -/
theorem LedgerOk.progress (h : LedgerOk s) {e : TargetPort} (hg : grantAt s e n = some g) {j : Nat} (hj : j < g.remaining) :
    LedgerOk (s.progress e n g j) := by
  have hheld := h.held e n g hg
  have hsize := h.size e n g hg
  have hle : weigh (·.remaining) g.flow (grantAt s e n) ≤ (ledgerOf s).outstanding g.flow := by
    rw [h.outstanding]; exact weigh_le_total (grantAt s) e n
  have hslot : ∀ w, weigh w g.flow (grantAt s e n) = w g := fun w => by simp [hg, weigh]
  rw [hslot] at hle
  have hw : ledgerOf (s.progress e n g j) =
      (ledgerOf s).write e n { g with remaining := g.remaining - j, age := 0 }
        ((s.flow g.flow).demand.outstanding - j) (s.flow g.flow).demand.grantCount := by
    refine ledgerOf_write (x :=
      { generation := (Table.get (s.arb e).slots n).generation
        grant := some { g with remaining := g.remaining - j, age := 0 } }) rfl (fun k => ?_) fun f => ?_
    · rw [State.progress, State.core_setDemand, State.core_setArb]
      split <;> rfl
    · rw [State.progress, State.setDemand_flow]
      split
      · next hf => subst hf; rfl
      · rfl
  rw [LedgerOk, hw]
  refine Ledger.Ok.write h hheld ⟨?_, ?_, hsize.2.2⟩ (fun g₀ h₀ => ?_) ?_ ?_
  · show 1 ≤ g.remaining - j; omega
  · show g.remaining - j ≤ g.issued; omega
  · rw [ledgerOf_grant, hg] at h₀
    rw [← Option.some.inj h₀]
  · rw [ledgerOf_grant, hslot, ledgerOf_outstanding]
    have hle : g.remaining ≤ (s.flow g.flow).demand.outstanding := hle
    show _ - j + g.remaining = (s.flow g.flow).demand.outstanding + (g.remaining - j)
    omega
  · rw [ledgerOf_grant, hslot]; rfl

/-- The completion of a grant, in its four cases (R98 to R102). -/
theorem LedgerOk.complete (h : LedgerOk s) {e : TargetPort} (hg : grantAt s e n = some g) (j : Nat) (endMark : Bool) :
    LedgerOk (s.complete e n g j endMark) := by
  have credited := ledgerOf_credit s g.flow j
  have retired : LedgerOk ((s.credit g.flow j).retire e [(n, g)]) := by
    rw [LedgerOk, ledgerOf_retire_slot _ (show grantAt (s.credit g.flow j) e n = some g from hg), credited]
    exact Ledger.Ok.retire h e _
  unfold State.complete
  dsimp only
  split
  · exact retired.congr (fun k => by rw [State.core_report]) fun f => by rw [State.report_flow]
  · next hover =>
    split
    · exact retired
    · next hall =>
      split
      · exact retired.refund _ _
      · refine (LedgerOk.progress ?_ ?_ ?_)
        · rw [LedgerOk, credited]; exact h
        · exact hg
        · omega

/-- A shutdown: every grant of the port retires, and with them go all the grants of the flows that it holds (R84). -/
theorem LedgerOk.cancelAll (h : LedgerOk s) (e : TargetPort) (cancels : Bool) : LedgerOk (s.cancelAll e cancels) := by
  have hall : (s.arb e).busy.filter (fun _ => true) = (s.arb e).busy := List.filter_true _
  have hretired := h.retire e fun _ => true
  rw [hall] at hretired
  have hflow : ∀ f, ((s.retire e (s.arb e).busy).flow f) =
      { s.flow f with demand := (s.flow f).demand.less (s.arb e).busy f } := State.retire_flow s e _
  have gone : ∀ n, grantAt (s.retire e (s.arb e).busy) e n = none := by
    intro n
    rw [← hall, busy_filter_eq, grantAt_retire, if_pos rfl]
    cases hx : grantAt s e n with
    | none => simp [without, hx]
    | some g => exact without_of_gone hx rfl
  refine Ledger.Ok.of_grantless hretired ?_ fun f => ?_
  · funext k
    rw [ledgerOf_grant, ledgerOf_grant]
    funext n
    rw [grantAt_eq, grantAt_eq, State.cancelAll, State.clearBacklogs, State.core_withHeld, State.core_hand]
  · rw [ledgerOf_holder, ledgerOf_holder, ledgerOf_outstanding, ledgerOf_outstanding, ledgerOf_count, ledgerOf_count,
      State.cancelAll_flow, hflow]
    split
    · next hf =>
      refine .inr ⟨fun k n g hm he => ?_, rfl, rfl⟩
      have hk := hretired.held k n g hm
      rw [ledgerOf_holder, he, hflow] at hk
      obtain rfl : k = e := Option.some.inj (hk.symm.trans hf)
      rw [ledgerOf_grant, gone] at hm
      cases hm
    · exact .inl ⟨rfl, rfl, rfl⟩

/-- A grant of some cells to a flow that the arbiter holds, into a free slot (R77). -/
theorem LedgerOk.issue (h : LedgerOk s) {e : TargetPort} {j : Nat} (hn : grantAt s e n = none) (hf : (s.flow f).holder = some e)
    (hj : 1 ≤ j ∧ j ≤ 1024) : LedgerOk (s.issue e f n j) := by
  have hw : ledgerOf (s.issue e f n j) =
      (ledgerOf s).write e n { flow := f, issued := j, remaining := j, age := 0 }
        ((s.flow f).demand.outstanding + j) ((s.flow f).demand.grantCount + 1) := by
    refine ledgerOf_write (x :=
      { generation := (Table.get (s.arb e).slots n).generation + 1
        grant := some { flow := f, issued := j, remaining := j, age := 0 } }) rfl (fun k => ?_) fun k => ?_
    · rw [State.issue, State.core_hand, State.core_setDemand, State.core_setArb]
      split <;> rfl
    · rw [State.issue_flow]
      split
      · next hf => subst hf; rfl
      · rfl
  rw [LedgerOk, hw]
  refine Ledger.Ok.write h hf ⟨hj.1, Nat.le_refl _, hj.2⟩ (fun g₀ h₀ => ?_) ?_ ?_
  · rw [ledgerOf_grant, hn] at h₀
    cases h₀
  · rw [ledgerOf_grant, hn]; rfl
  · rw [ledgerOf_grant, hn]; rfl

end Sys2Proof.Machine
end

section
/-! PROOFS. O59: the ledger and the requests of the command in execution from step to step. -/

namespace Sys2Proof.Machine

open Sys2Proof.Safety

variable {s t : State} {c : Instr} {e k : TargetPort} {f : Flow} {n : Slot} {g : Grant} {q : Request} {rest : List Request}

/-! ## Grants issued -/

/-- What is known of a flow that is granted next: its arbiter holds it, and its size passes the test (R70, R71). -/
theorem State.eligible_of_chosenFlow (h : s.chosenFlow e = some f) : s.eligible e f = true := by
  obtain ⟨u, -, hu⟩ := List.exists_of_findSome?_eq_some h
  have hc := List.find?_some hu
  simp only [State.candidate, Bool.and_eq_true] at hc
  exact hc.1.1

theorem grantAt_of_lowestFree (h : (s.arb e).lowestFree = some n) : grantAt s e n = none :=
  Option.isNone_iff_eq_none.1 (List.find?_some h :)

theorem grantSize_range (hs : grantSizesOk (s.arb e).view.minGrant (s.arb e).view.maxGrant = true)
    (hf : s.eligible e f = true) : 1 ≤ s.grantSize e f ∧ s.grantSize e f ≤ 1024 := by
  obtain ⟨-, hpass⟩ := Bool.and_eq_true_iff.1 hf
  simp only [grantSizesOk, Bool.and_eq_true, decide_eq_true_eq] at hs
  refine ⟨?_, Nat.le_trans (Nat.le_trans (Nat.min_le_right _ _) (Nat.min_le_left _ _)) hs.2⟩
  simp only [State.sizePasses, Bool.or_eq_true, Bool.and_eq_true, decide_eq_true_eq] at hpass
  omega

/-! ## Rows that take no request -/

/-- Every row but the power-on reset and those that take requests keeps the ledger. -/
theorem ledgerOk_of_moves (h : Moves s c t) (hc : c ≠ .powerOnReset)
    (hrequest : ∀ j q rest, Asks s j q rest → c = q.row → t ≠ s.serve { j with todo := rest } q)
    (hsizes : ∀ e, grantSizesOk (s.core e).view.minGrant (s.core e).view.maxGrant = true) (hs : LedgerOk s) : LedgerOk t := by
  have hframe := moves_changesOnly h hc
  have hcore : ∀ k, dealsAt c k = false → t.core k = s.core k := fun k => core_of_moves h hc
  have outside : (∀ k, dealsAt c k = false) → (∀ f, .held f ∉ reach c) → LedgerOk t := fun hk hf =>
    hs.congr (fun k => congrArg ArbiterCore.slots (hcore k (hk k))) fun f => congrArg ArbiterFlow.account (hframe _ (hf f))
  have message : ∀ (e : TargetPort) (x : Arbiter), x.slots = (s.arb e).slots → LedgerOk (s.setArb e x) := by
    refine fun e x hx => hs.congr (fun k => ?_) fun _ => rfl
    rw [State.core_setArb]
    split
    · next hk => rw [hk]; exact hx
    · rfl
  have reported : ∀ (u : State) (src : Source) (r : FaultReport), LedgerOk u → LedgerOk (u.report src r) := fun u src r hu =>
    hu.congr (fun _ => congrArg ArbiterCore.slots (u.core_report src r)) fun f =>
      congrArg ArbiterFlow.account (u.report_flow src r f)
  cases h with
  | powerOn => exact absurd rfl hc
  | same => exact hs
  | requestTaken j q rest hasks => exact absurd rfl (hrequest j q rest hasks rfl)
  | expiryTaken _ e =>
    have aged := (message e { s.arb e with expiries := (s.arb e).expiries - 1 } rfl).age e
    refine aged.congr (fun k => ?_) fun f => ?_
    · by_cases hk : k = e
      · rw [hk, State.core_close]
      · rw [State.sendTally, State.core_withHeld, State.core_setArb, if_neg hk, State.renewBudget, State.core_setArb, if_neg hk]
    · rw [State.sendTally_flow]
      split <;> rfl
  | tallyArrived _ e x rest =>
    refine (message e { s.arb e with tallies := rest } rfl).congr (fun k => ?_) fun f => ?_
    · rw [State.core_enqueueTally]
    · exact congrArg ArbiterFlow.account
        (changesOnly_enqueueTally (A := [.tallyQueue, .rateReports]) (by simp) (by simp) (.held f) (by simp))
  | refillDiscarded _ e x rest => exact message e _ rfl
  | refillTaken _ e x rest =>
    refine (message e { s.arb e with refills := rest } rfl).congr (fun k => by rw [State.core_refill]) fun f => ?_
    rw [State.refill_flow]
    split
    · split <;> rfl
    · rfl
  | backlogApplied _ e g cells flush rest =>
    have popped : LedgerOk (s.popArbiter e rest) := message e { s.arb e with inbox := rest } rfl
    unfold State.applyBacklog
    split
    · exact reported _ _ _ popped
    · split
      · exact popped.congr (fun _ => congrArg ArbiterCore.slots (State.core_setDemand ..)) (account_setDemand rfl rfl)
      · exact reported _ _ _ popped
  | completed _ e tag j endMark rest g hi hm =>
    have slot : grantAt (s.popArbiter e rest) e tag.slot = some g := by
      rw [grantAt_eq, State.core_popArbiter]; exact hm.1
    exact (message e { s.arb e with inbox := rest } rfl).complete slot j endMark
  | doneLate _ e tag j endMark rest => exact reported _ _ _ (message e { s.arb e with inbox := rest } rfl)
  | shutdownTaken _ e cancels rest => exact (message e { s.arb e with shutdowns := rest } rfl).cancelAll e cancels
  | grantIssued _ e g n hf hn =>
    have helig := s.eligible_of_chosenFlow hf
    have hheld : s.holds e g = true := by
      simp only [State.eligible, Bool.and_eq_true] at helig
      tauto
    exact hs.issue (grantAt_of_lowestFree hn) (beq_iff_eq.1 hheld) (grantSize_range (hsizes e) helig)
  | @commandTaken _ _ htakes p r hn =>
    refine hs.congr (fun k => ?_) fun f => ?_
    · exact congrArg ArbiterCore.slots (State.core_of_changesOnly (changesOnly_take s p r) (by simp [takingParts]))
    · exact congrArg ArbiterFlow.account (changesOnly_take s p r (.held f) (by simp [takingParts]))
  | recordPassed _ _ hh =>
    exact outside (fun k => by cases c <;> first | rfl | cases hh) fun f =>
      by simp [reach_of_handler hh, allArbiters, allMonitors]
  | faultTaken _ src | posted _ src => exact outside (fun _ => rfl) fun f => by cases src <;> simp [reach, sourcePart]
  | _ => exact outside (fun _ => rfl) fun f => by simp [reach, allArbiters, allMonitors, allWaiting, allRateFlows]

/-! ## Requests -/

theorem port_of_row (h : q.row = .portRequest) : ∃ e v, q = .port e v := by
  cases q <;> first | exact ⟨_, _, rfl⟩ | cases h

theorem flow_commitOf (s : State) (j : Running) (f : Flow) : (s.commitOf j).flow f = s.flow f := by
  obtain ⟨flows, ports, h⟩ := s.commitOf_eq j
  rw [h]
  rfl

/-- A request whose taking leaves the ledger but for a flow without grants, or gives an arbiter new fields. -/
theorem ledgerOk_serve (s : State) (j : Running) (q : Request) (hs : LedgerOk s)
    (hq : movesFlows s none q = true) : LedgerOk (s.serve j q) := by
  have hslots : ∀ k, ((s.serve j q).core k).slots = (s.core k).slots := by
    intro k
    by_cases hport : q.row = .portRequest
    · obtain ⟨e, v, rfl⟩ := port_of_row hport
      show ((s.setArb e ((s.arb e).reconfigure v)).core k).slots = _
      rw [State.core_setArb]
      split
      · next hk => rw [hk]; rfl
      · rfl
    · rw [core_serve s j hport]
  have hgrants : (ledgerOf (s.serve j q)).grant = (ledgerOf s).grant := by
    funext k n
    rw [ledgerOf_grant, ledgerOf_grant, grantAt_eq, grantAt_eq, hslots]
  have hframe := changesOnly_serve s j q
  have accounts : (∀ f, ((s.serve j q).flow f).account = (s.flow f).account) → LedgerOk (s.serve j q) := hs.congr hslots
  have others : ∀ f, (∀ k ≠ f, .held k ∉ requestParts j q) → ∀ k ≠ f, ((s.serve j q).flow k).account = (s.flow k).account :=
    fun f h k hk => congrArg ArbiterFlow.account (hframe _ (h k hk))
  have grantless : ∀ f, (∀ e n, ∀ g ∈ grantAt s e n, g.flow ≠ f) → (∀ k ≠ f, .held k ∉ requestParts j q) →
      ((s.serve j q).flow f).demand.outstanding = 0 → ((s.serve j q).flow f).demand.grantCount = 0 → LedgerOk (s.serve j q) := by
    refine fun f hf hk ho hcount => Ledger.Ok.of_grantless hs hgrants fun k => ?_
    by_cases hkf : k = f
    · rw [hkf]; exact .inr ⟨hf, ho, hcount⟩
    · have := others f hk k hkf
      simp only [ArbiterFlow.account, Prod.mk.injEq] at this
      exact .inl this
  cases q with
  | release f e =>
    by_cases hcount : 0 < (s.flow f).demand.grantCount
    · exact accounts fun k => by rw [State.serve, if_pos hcount]; rfl
    · have hnone : ∀ e n, ∀ g ∈ grantAt s e n, g.flow ≠ f := fun e n g hg =>
        hs.no_grant (Nat.eq_zero_of_not_pos hcount) hg
      have hdemand : ((s.serve j (.release f e)).flow f).demand = (s.flow f).demand := by
        rw [State.serve, if_neg hcount, State.withRunning_flow, flow_commitOf, State.setFlow_flow_self]
      refine grantless f hnone (fun k hk => by simp [requestParts, hk]) ?_ ?_
      · rw [hdemand]; exact (hs.outstanding f).trans (total_eq_zero hnone)
      · rw [hdemand]; exact Nat.eq_zero_of_not_pos hcount
  | flowTake f e v =>
    have hfree : (s.flow f).holder = none := by simpa [movesFlows] using hq
    have hnone : ∀ e n, ∀ g ∈ grantAt s e n, g.flow ≠ f := fun e n g hg hgf => by
      have := hs.held e n g hg
      rw [ledgerOf_holder, hgf, hfree] at this
      cases this
    have hflow : (s.serve j (.flowTake f e v)).flow f = { holder := some e, view := v, demand := zeroDemand } := by
      rw [State.serve, State.withRunning_flow, State.setFlow_flow_self]
    exact grantless f hnone (fun k hk => by simp [requestParts, hk]) (by rw [hflow]; rfl) (by rw [hflow]; rfl)
  | flowConfig f v =>
    refine accounts fun k => ?_
    rw [State.serve, State.withRunning_flow, State.setFlow_flow]
    split
    · next hk => rw [hk]; rfl
    · rfl
  | clearing f => exact accounts (account_setDemand (s := s) rfl rfl)
  | _ => exact accounts fun f => congrArg ArbiterFlow.account (hframe (.held f) (by simp [requestParts, allRateFlows]))

end Sys2Proof.Machine
end

section
/-! PROOFS. O59: the command in execution moves flows between arbiters only when they have no grants, and keeps grant sizes. -/

namespace Sys2Proof.Machine

open Sys2Proof.Safety

variable {s t : State} {c : Instr} {e : TargetPort} {f : Flow} {q : Request} {rest todo : List Request} {x : Work}

/-! ## The requests of the command in execution -/

/-- What the accounts of the grants need of the executor's work. -/
structure Work.MovesOk (x : Work) (s : State) : Prop where
  sizes : ∀ e, grantSizesOk (Table.get x.ports e).minGrant (Table.get x.ports e).maxGrant = true
  requests : ∀ q ∈ x.todo, movesFlows s (releasing x.commit x.todo) q = true
  takes : x.todo.countP isTake ≤ 1
  commit : commitMovesFlows x.commit x.todo = true

/-- The sizes of the grants that the arbiters may issue. -/
def SizesOk (s : State) : Prop := ∀ e, grantSizesOk (s.core e).view.minGrant (s.core e).view.maxGrant = true

theorem grantsOk_iff : GrantsOk s ↔ LedgerOk s ∧ SizesOk s ∧ (workOf s).MovesOk s := by
  constructor
  · rintro ⟨hgrants, haccounts, hsizes, hrequests, htakes, hcommit⟩
    refine ⟨⟨fun e n g hg => (hgrants e n g hg).1, fun e n g hg => (hgrants e n g hg).2, fun f => ?_, fun f => ?_⟩,
      fun e => (hsizes e).1, ⟨fun e => (hsizes e).2, List.all_eq_true.1 hrequests, htakes, hcommit⟩⟩
    · exact (haccounts f).1.trans (sum_grantsFor s f _)
    · exact (haccounts f).2.trans (length_grantsFor s f)
  · rintro ⟨hledger, hsizes, hports, hrequests, htakes, hcommit⟩
    refine ⟨fun e n g hg => ⟨hledger.held e n g hg, hledger.size e n g hg⟩, fun f => ⟨?_, ?_⟩, fun e => ⟨hsizes e, hports e⟩,
      List.all_eq_true.2 hrequests, htakes, hcommit⟩
    · exact (hledger.outstanding f).trans (sum_grantsFor s f _).symm
    · exact (hledger.count f).trans (length_grantsFor s f).symm

/-- A flow that no arbiter holds stays so. -/
theorem Work.MovesOk.mono (h : x.MovesOk s)
    (hf : ∀ f e v, .flowTake f e v ∈ x.todo → (s.flow f).holder = none → (t.flow f).holder = none) : x.MovesOk t := by
  obtain ⟨hsizes, hrequests, htakes, hcommit⟩ := h
  refine ⟨hsizes, fun q hq => ?_, htakes, hcommit⟩
  have := hrequests q hq
  cases q with
  | flowTake f e v =>
    simp only [movesFlows, decide_eq_true_eq, Bool.or_eq_true] at this ⊢
    exact this.imp_right (hf f e v hq)
  | _ => exact this

/-- A command that no flow's release holds up owes no flow's write. -/
theorem Work.MovesOk.commit_ne_flow (h : x.MovesOk s) (hr : releasing x.commit x.todo = none) (f : Flow) (w : FlowConfig) :
    x.commit ≠ some (.flow f w) := by
  intro hw
  have := h.commit
  simp only [commitMovesFlows, hw, decide_eq_true_eq] at this
  rw [hw, this] at hr
  cases hr

theorem releasing_of_ne_flow {w : Option Commit} (h : ∀ f x, w ≠ some (.flow f x)) (todo : List Request) :
    releasing w todo = none := by
  unfold releasing
  split
  · exact absurd rfl (h _ _)
  · rfl

/-- The requests of such a command may go, and others come that move no flow. -/
theorem Work.MovesOk.unreleased (h : x.MovesOk s) (hr : releasing x.commit x.todo = none)
    (hmem : ∀ q ∈ todo, q ∈ x.todo ∨ ∀ r, movesFlows s r q = true) (htakes : todo.countP isTake ≤ 1) :
    ({ x with todo := todo } : Work).MovesOk s := by
  have hne := h.commit_ne_flow hr
  have hnone := releasing_of_ne_flow hne
  refine ⟨h.sizes, fun q hq => ?_, htakes, ?_⟩
  · obtain hq | hq := hmem q hq
    · have := h.requests q hq
      rwa [hr, ← hnone todo] at this
    · exact hq _
  · have := h.commit
    cases hw : x.commit with
    | none => rfl
    | some w =>
      cases w with
      | flow f y => exact absurd hw (hne f y)
      | port e y => rwa [hw] at this

theorem Work.MovesOk.settled (h : x.MovesOk s) : (x.settled []).MovesOk t :=
  ⟨h.sizes, by simp [Work.settled], by simp [Work.settled], rfl⟩

/-- A command whose requests move no flow. -/
theorem Work.MovesOk.plain (h : x.MovesOk s) (closed : Bool) (htodo : PlainTodo todo) :
    ({ x with lockClosed := closed, commit := none, todo := todo } : Work).MovesOk s := by
  have still : ∀ q ∈ todo, movesFlows s none q = true ∧ isTake q = false := by
    obtain hquiet | ⟨f, rfl⟩ | ⟨e, rfl⟩ := htodo
    · intro q hq
      have := hquiet q hq
      cases q <;> first | exact ⟨rfl, rfl⟩ | cases this
    · simp [movesFlows, isTake]
    · simp [movesFlows, isTake]
  refine ⟨h.sizes, fun q hq => (still q hq).1, ?_, rfl⟩
  rw [List.countP_eq_zero.2 fun q hq => by simp [(still q hq).2]]
  exact Nat.zero_le _

/-! ## FLOW_SET and PORT_SET -/

theorem countP_isTake_flowRequests (f : Flow) (c d : FlowConfig) :
    (flowRequests f c d).countP isTake = if d.port = c.port then 0 else 1 := by
  unfold flowRequests
  rw [List.countP_append, List.countP_append, List.countP_append]
  split_ifs <;> simp_all [isTake]

/-- A FLOW_SET moves its flow only behind its release. -/
theorem Work.MovesOk.newPort (h : x.MovesOk s) (f : Flow) (c d : FlowConfig) (e : TargetPort) :
    ({ x with commit := some (.flow f d), todo := .release f e :: flowRequests f c d } : Work).MovesOk s := by
  have hr : releasing (some (.flow f d)) (.release f e :: flowRequests f c d) = some f := if_pos rfl
  refine ⟨h.sizes, fun q hq => ?_, ?_, ?_⟩
  · rw [hr]
    rcases List.mem_cons.1 hq with rfl | hq
    · rfl
    · obtain rfl | rfl | rfl | rfl := flowRequests_mem hq <;> simp [movesFlows]
  · rw [List.countP_cons, countP_isTake_flowRequests]
    split_ifs <;> simp_all [isTake]
  · simp [commitMovesFlows, hr]

theorem Work.MovesOk.samePort (h : x.MovesOk s) (f : Flow) (c d : FlowConfig) (hp : d.port = c.port)
    (flows : Table FlowConfig 96) : ({ x with flows := flows, commit := none, todo := flowRequests f c d } : Work).MovesOk s := by
  have hcount := countP_isTake_flowRequests f c d
  rw [if_pos hp] at hcount
  refine ⟨h.sizes, fun q hq => ?_, hcount ▸ Nat.zero_le _, rfl⟩
  have hq' := List.countP_eq_zero.1 hcount q hq
  cases q with
  | flowTake => exact absurd rfl hq'
  | port => obtain h | h | h | h := flowRequests_mem hq <;> cases h
  | _ => rfl

/-- The fields of a PORT_SET are clamped (R143). -/
theorem grantSizesOk_onto {w : PortWrite} {c : PortConfig} (h : grantSizesOk c.minGrant c.maxGrant = true) :
    grantSizesOk (w.onto c).minGrant (w.onto c).maxGrant = true := by
  simp only [grantSizesOk, Bool.and_eq_true, decide_eq_true_eq] at h ⊢
  constructor
  · cases hm : w.minGrant <;> simp [PortWrite.onto, hm, clampMinGrant, clampNat]; omega
  · cases hm : w.maxGrant <;> simp [PortWrite.onto, hm, clampMaxGrant, clampNat]; omega

theorem movesFlows_portRequests {e : TargetPort} {c d : PortConfig} (hd : grantSizesOk d.minGrant d.maxGrant = true)
    (r : Option Flow) (hq : q ∈ portRequests e c d) : movesFlows s r q = true ∧ isTake q = false := by
  obtain rfl | rfl := portRequests_mem hq
  · exact ⟨rfl, rfl⟩
  · exact ⟨hd, rfl⟩

theorem countP_isTake_portRequests (e : TargetPort) (c d : PortConfig) : (portRequests e c d).countP isTake = 0 :=
  List.countP_eq_zero.2 fun q hq => by obtain rfl | rfl := portRequests_mem hq <;> simp [isTake]

/-- A port's record written with its sizes in range. -/
theorem sizes_put {ports : Table PortConfig 8}
    (h : ∀ k, grantSizesOk (Table.get ports k).minGrant (Table.get ports k).maxGrant = true) (e : TargetPort) {d : PortConfig}
    (hd : grantSizesOk d.minGrant d.maxGrant = true) (k : TargetPort) :
    grantSizesOk (Table.get (Table.put ports e d) k).minGrant (Table.get (Table.put ports e d) k).maxGrant = true := by
  rw [Table.get_put]
  split
  · exact hd
  · exact h k

/-- What is taken moves flows in order (R126). -/
theorem movesOk_take (hs : (workOf s).MovesOk s) (p : MPort) (r : CommandRecord) :
    (workOf ((s.takeFrom p).beginRecord p r)).MovesOk s := by
  obtain ⟨todo, closed, htodo, hw⟩ | ⟨f, w, hw⟩ | ⟨e, w, hw⟩ := workOf_take (s := s) (p := p) (r := r) <;> rw [hw]
  · exact hs.plain closed htodo
  · obtain hb | ⟨-, -, hb⟩ | ⟨-, hport, hb⟩ := workOf_beginFlowSet (s := s.takeFrom p) (j := fresh p r) rfl f w <;> rw [hb]
    · exact hs.settled
    · exact hs.newPort f _ _ _
    · exact hs.samePort f _ _ hport _
  · have hd := grantSizesOk_onto (w := w) (hs.sizes e)
    obtain hb | ⟨-, enable, threshold, hb⟩ | ⟨-, hb⟩ :=
      workOf_beginPortSet (s := s.takeFrom p) (j := fresh p r) rfl e w <;> rw [hb]
    · exact hs.settled
    · refine ⟨hs.sizes, fun q hq => ?_, ?_, hd⟩
      · rcases List.mem_cons.1 hq with rfl | hq
        · rfl
        · exact (movesFlows_portRequests hd _ hq).1
      · rw [List.countP_cons, countP_isTake_portRequests]
        exact Nat.zero_le _
    · exact ⟨sizes_put hs.sizes e hd, fun q hq => (movesFlows_portRequests hd _ hq).1, by
        rw [countP_isTake_portRequests]; exact Nat.zero_le _, rfl⟩

/-! ## Requests taken -/

/-- Only a take gives a flow that no arbiter holds an arbiter. -/
theorem holder_serve (s : State) (j : Running) (hq : isTake q = false) (hf : (s.flow f).holder = none) :
    ((s.serve j q).flow f).holder = none := by
  have hframe := changesOnly_serve s j q
  have kept : .held f ∉ requestParts j q → ((s.serve j q).flow f).holder = none := fun h => by
    rw [show (s.serve j q).flow f = s.flow f from hframe _ h]; exact hf
  cases q with
  | flowTake => cases hq
  | release g e =>
    rw [State.serve]
    split
    · exact hf
    · rw [State.withRunning_flow, flow_commitOf, State.setFlow_flow]
      split
      · rfl
      · exact hf
  | flowConfig g v =>
    rw [State.serve, State.withRunning_flow, State.setFlow_flow]
    split
    · next hg => rw [← hg]; exact hf
    · exact hf
  | clearing g =>
    rw [State.serve, State.withRunning_flow, State.setDemand_flow]
    split
    · next hg => rw [← hg]; exact hf
    · exact hf
  | _ => exact kept (by simp [requestParts, allRateFlows])

/-- The write that was owed is made, and the flow that it moves has been given up. -/
theorem Work.MovesOk.written (h : x.MovesOk s) (hx : x.todo = q :: rest)
    (hf : ∀ f, (s.flow f).holder = none → (t.flow f).holder = none)
    (hrel : ∀ f e, q = .release f e → (t.flow f).holder = none) : (x.written rest).MovesOk t := by
  refine ⟨?_, fun r hr => ?_, ?_, rfl⟩
  · intro e
    show grantSizesOk (Table.get x.portsAfter e).minGrant (Table.get x.portsAfter e).maxGrant = true
    have hcommit := h.commit
    unfold Work.portsAfter
    split
    · next k d hw =>
      rw [hw] at hcommit
      exact sizes_put h.sizes k hcommit e
    · exact h.sizes e
  · have := h.requests r (hx ▸ List.mem_cons_of_mem _ hr)
    cases r with
    | flowTake f e v =>
      simp only [movesFlows, decide_eq_true_eq, Bool.or_eq_true] at this ⊢
      refine .inr ?_
      obtain hreleased | hfree := this
      · unfold releasing at hreleased
        split at hreleased
        · next g _ k _ _ hw ht =>
          rw [hx] at ht
          obtain ⟨hq, -⟩ := List.cons.inj ht
          split at hreleased
          · next hk =>
            obtain rfl := Option.some.inj hreleased
            exact hk ▸ hrel k _ hq
          · cases hreleased
        · cases hreleased
      · exact hf f hfree
    | _ => exact this
  · have := h.takes
    rw [hx, List.countP_cons] at this
    exact Nat.le_trans (Nat.le_add_right _ _) this

/-- The requests that a served request leaves move flows in order. -/
theorem movesOk_serve {j : Running} (hs : (workOf s).MovesOk s) (hasks : Asks s j q rest) :
    (workOf (s.serve { j with todo := rest } q)).MovesOk (s.serve { j with todo := rest } q) := by
  have htodo : (workOf s).todo = q :: rest := (todoOf_of_running hasks.2.1).trans hasks.2.2
  have htakes : rest.countP isTake + (if isTake q then 1 else 0) ≤ 1 := by
    have := hs.takes
    rwa [htodo, List.countP_cons] at this
  have unreleased : (∀ f e, q ≠ .release f e) → releasing (workOf s).commit (workOf s).todo = none := by
    intro hq
    rw [htodo]
    unfold releasing
    split
    · next heq => exact absurd (List.cons.inj heq).1 (hq _ _)
    · rfl
  have next : ∀ put : List Request, (∀ r ∈ put, isTake r = false ∧ ∀ g, movesFlows s g r = true) → (∀ f e, q ≠ .release f e) →
      ({ workOf s with todo := put ++ rest } : Work).MovesOk (s.serve { j with todo := rest } q) := by
    intro put hput hq
    have hcount : (put ++ rest).countP isTake = rest.countP isTake := by
      rw [List.countP_append, List.countP_eq_zero.2 fun r hr => by simp [(hput r hr).1], Nat.zero_add]
    refine (hs.unreleased (unreleased hq) (fun r hr => ?_) (hcount ▸ Nat.le_trans (Nat.le_add_right _ _) htakes)).mono
      fun f e v hm => holder_serve s _ ?_
    · obtain hr | hr := List.mem_append.1 hr
      · exact .inr (hput r hr).2
      · exact .inl (htodo ▸ List.mem_cons_of_mem _ hr)
    · have hpos : 0 < (put ++ rest).countP isTake := List.countP_pos_iff.2 ⟨_, hm, rfl⟩
      by_contra hne
      rw [if_pos (Bool.not_eq_false _ ▸ hne)] at htakes
      omega
  obtain ⟨-, hw⟩ | ⟨hr, -, hw⟩ | ⟨hr, -, hw⟩ | ⟨e, rfl, hw⟩ | ⟨e, rfl, hw | ⟨rfl, hw⟩⟩ := workOf_serve hasks
  · rw [hw]; exact hs.settled
  · have hq : isTake q = false := by cases q <;> first | rfl | cases hr
    by_cases hbusy : ∃ f e, q = .release f e ∧ 0 < (s.flow f).demand.grantCount
    · obtain ⟨f, e, rfl, hbusy⟩ := hbusy
      rw [State.serve, if_pos hbusy]
      exact hs.settled
    · rw [hw]
      refine hs.written htodo (fun f => holder_serve s _ hq) ?_
      rintro f e rfl
      rw [State.serve, if_neg fun h => hbusy ⟨f, e, rfl, h⟩, State.withRunning_flow, flow_commitOf, State.setFlow_flow_self]
  · rw [hw]
    refine next [] nofun ?_
    rintro f e rfl
    obtain ⟨e, he⟩ | hr := hr
    · cases he
    · cases hr
  · rw [hw]; exact next [.fenceAnswer e] (by simp [isTake, movesFlows]) nofun
  · rw [hw]
    have hsame : ({ workOf s with todo := .fenceAnswer e :: rest } : Work) = workOf s := by rw [← htodo]
    rw [← hsame]
    exact next [.fenceAnswer e] (by simp [isTake, movesFlows]) nofun
  · rw [hw]; exact hs.settled

/-! ## The invariant -/

/-- A row of an arbiter's port request takes that request, or finds none. -/
theorem moves_portRequest (h : Moves s .portRequest t) :
    t = s ∨ ∃ j q rest, Asks s j q rest ∧ t = s.serve { j with todo := rest } q := by
  generalize hc : Instr.portRequest = c at h
  cases h with
  | same => exact .inl rfl
  | requestTaken j q rest hasks => exact .inr ⟨j, q, rest, hasks, rfl⟩
  | recordPassed _ _ hh => subst hc; cases hh
  | commandTaken _ htakes => subst hc; cases htakes
  | _ => cases hc

/-- Port fields taken by an arbiter bring grant sizes in range (R143). -/
theorem sizesOk_serve {j : Running} (hs : SizesOk s) (hq : movesFlows s none q = true) : SizesOk (s.serve j q) := by
  intro k
  by_cases hport : q.row = .portRequest
  · obtain ⟨e, v, rfl⟩ := port_of_row hport
    have hcore : (s.serve j (.port e v)).core k = if k = e then ((s.arb e).reconfigure v).core else s.core k :=
      State.core_setArb s e k _
    rw [hcore]
    split
    · exact hq
    · exact hs k
  · rw [core_serve s j hport]
    exact hs k

theorem sizesOk_of_moves (h : Moves s c t) (hc : c ≠ .powerOnReset)
    (hrequest : ∀ j q rest, Asks s j q rest → t ≠ s.serve { j with todo := rest } q) (hs : SizesOk s) : SizesOk t := by
  intro k
  have hk := hs k
  by_cases hport : c = .portRequest
  · subst hport
    obtain rfl | ⟨j, q, rest, hasks, ht⟩ := moves_portRequest h
    · exact hk
    · exact absurd ht (hrequest j q rest hasks)
  · have hcore := coreMoves_of_moves h hc k
    generalize s.core k = a, t.core k = b at hk hcore ⊢
    cases hcore with
    | configured hconfig => exact absurd hconfig hport
    | _ => exact hk

theorem grantsOk_powerOn (s : State) : GrantsOk s.powerOn := by
  have hflow : ∀ f, s.powerOn.flow f = powerOnArbiterFlow := fun f => Table.get_const _ f
  have hcore : ∀ e, s.powerOn.core e = powerOnArbiter.core := fun e => congrArg Arbiter.core (Table.get_const _ e)
  have hgrant : ∀ e n, grantAt s.powerOn e n = none := fun e n => by
    rw [grantAt_eq, hcore]
    exact congrArg GrantSlot.grant (Table.get_const _ n)
  have hzero : ∀ (w : Grant → Nat) f, total w f (ledgerOf s.powerOn).grant = 0 := fun w f =>
    total_eq_zero fun e n g hg => by rw [ledgerOf_grant, hgrant] at hg; cases hg
  refine grantsOk_iff.2 ⟨⟨fun e n g hg => ?_, fun e n g hg => ?_, fun f => ?_, fun f => ?_⟩, fun e => ?_,
    ⟨fun e => ?_, ?_, ?_, rfl⟩⟩
  · rw [ledgerOf_grant, hgrant] at hg; cases hg
  · rw [ledgerOf_grant, hgrant] at hg; cases hg
  · rw [hzero, ledgerOf_outstanding, hflow]; rfl
  · rw [hzero, ledgerOf_count, hflow]; rfl
  · rw [hcore]; rfl
  · rw [show Table.get (workOf s.powerOn).ports e = powerOnPort from Table.get_const _ e]; rfl
  · exact fun q hq => absurd hq List.not_mem_nil
  · exact Nat.zero_le _

/-- Every row keeps what R12 and R69 say of the grants. -/
theorem grantsOk_of_moves (h : Moves s c t) (hs : GrantsOk s) : GrantsOk t := by
  by_cases hc : c = .powerOnReset
  · obtain rfl | rfl := moves_powerOn h hc
    · exact grantsOk_powerOn s
    · exact hs
  obtain ⟨hledger, hsizes, hmoves⟩ := grantsOk_iff.1 hs
  by_cases hrequest : ∃ j q rest, Asks s j q rest ∧ t = s.serve { j with todo := rest } q
  · obtain ⟨j, q, rest, hasks, rfl⟩ := hrequest
    have hq : movesFlows s none q = true := by
      have htodo : (workOf s).todo = q :: rest := (todoOf_of_running hasks.2.1).trans hasks.2.2
      have := hmoves.requests q (htodo ▸ List.mem_cons_self)
      cases q with
      | flowTake f e v =>
        have hr : releasing (workOf s).commit (.flowTake f e v :: rest) = none := by
          unfold releasing
          split <;> simp_all
        rwa [htodo, hr] at this
      | _ => exact this
    exact grantsOk_iff.2 ⟨ledgerOk_serve s _ q hledger hq, sizesOk_serve hsizes hq, movesOk_serve hmoves hasks⟩
  have hnot : ∀ j q rest, Asks s j q rest → t ≠ s.serve { j with todo := rest } q := fun j q rest ha ht =>
    hrequest ⟨j, q, rest, ha, ht⟩
  have hheld : ∀ f, (s.flow f).holder = none → (t.flow f).holder = none := fun f hf => by
    obtain ⟨⟨hh, -⟩, -⟩ := purses_of_moves h hc (fun j q rest ha _ => hnot j q rest ha) f
    rw [hh, hf]
  refine grantsOk_iff.2 ⟨ledgerOk_of_moves h hc (fun j q rest ha _ => hnot j q rest ha) hsizes hledger,
    sizesOk_of_moves h hc hnot hsizes, Work.MovesOk.mono ?_ fun f _ _ _ => hheld f⟩
  obtain ⟨hreset, -⟩ | hw | ⟨p, r, -, -, rfl⟩ | ⟨j, -, -, rfl⟩ | ⟨j, q, rest, ha, -, ht⟩ := moves_work h
  · exact absurd hreset hc
  · rw [hw]; exact hmoves
  · exact movesOk_take hmoves p r
  · rw [workOf_endCommand]; exact hmoves.settled
  · exact absurd ht (hnot j q rest ha)

/-- Settles O59: the ledger of the grants is kept by each operation of an arbiter, and the command in execution moves only flows
without grants. -/
theorem stepKeepsGrantAccounts : Obligations.StepKeepsGrantAccounts :=
  fun _ _ hs h => step_keeps (fun _ _ h => h) (fun _ _ _ => grantsOk_of_moves) h hs

end Sys2Proof.Machine
end

section
/-! PROOFS. The requests of a command, each taken by the block before which it stands: O7, O42 to O51. -/

namespace Sys2Proof.Machine

open Sys2Proof.Safety

variable {s t : State} {j : Running} {rest : List Request}

/-! ## Requests that go on or end their command -/

/-- A refused request changes the command in execution only. -/
theorem changesOnly_refuse (s : State) (j : Running) (status : Status) :
    changesOnly s (s.withRunning (some (j.refuse status))) [.running] := changesOnly_withRunning (by simp)

/-- The write that the command in execution owes, when it is made (R138, R143). -/
theorem commitOf_after {u : State} (hj : s.cmd.running = some j) (hu : u.cmd = s.cmd) (rest : List Request) :
    (u.commitOf { j with todo := rest }).cmd.flows = (afterCommit s.cmd).flows ∧
      (u.commitOf { j with todo := rest }).cmd.ports = (afterCommit s.cmd).ports := by
  cases hw : j.commit with
  | none => simp [State.commitOf, afterCommit, hj, hw, hu]
  | some w => cases w <;> simp [State.commitOf, State.commit, afterCommit, hj, hw, hu]

/-- Settles O7, by what the timer takes. -/
theorem epochSetChangesPendingPeriod : Obligations.EpochSetChangesPendingPeriod := by
  intro s j p rest h
  refine ⟨_, exec_row_of_asks h, rfl, fun hp => ?_, fun hp => ?_, rfl, rfl,
    (changesOnly_serve s _ _).mono (by simp [requestParts])⟩
  · exact if_neg hp
  · exact if_pos hp

/-! ## At the arbiters -/

/-- Settles O42, by the two outcomes of a release and the fields of a take. -/
theorem flowMovesBetweenArbiters : Obligations.FlowMovesBetweenArbiters := by
  intro s j f e v rest
  refine ⟨fun h => ⟨fun hbusy => ?_, fun hfree => ?_⟩, fun h => ?_⟩
  · have ht := exec_row_of_asks h
    rw [State.serve, if_pos hbusy] at ht
    exact ⟨_, ht, rfl, changesOnly_refuse s _ _⟩
  · have hidle : ¬ 0 < (s.flow f).demand.grantCount := by omega
    have ht := exec_row_of_asks h
    have hframe := changesOnly_serve s { j with todo := rest } (.release f e)
    rw [State.serve, if_neg hidle] at ht hframe
    obtain ⟨hflows, hports⟩ := commitOf_after (u := s.setFlow f { s.flow f with holder := none }) h.2.1 rfl rest
    refine ⟨_, ht, rfl, ?_, hflows, hports, hframe⟩
    rw [State.withRunning_flow, flow_commitOf, State.setFlow_flow_self]
  · refine ⟨_, exec_row_of_asks h, rfl, ?_, changesOnly_serve s _ _⟩
    exact State.setFlow_flow_self s f _

/-- A new capacity lowers the budget to what the capacity leaves of the cells granted (R29, R143). -/
theorem budget_reconfigured (budget granted capacity : Nat) :
    min budget (capacity - granted) =
      if capacity < granted then 0 else if budget ≤ capacity - granted then budget else capacity - granted := by
  split_ifs <;> omega

/-- Settles O43, by the fields that each request writes. -/
theorem arbiterTakesConfiguration : Obligations.ArbiterTakesConfiguration := by
  refine fun s j rest => ⟨fun f v h => ?_, fun f h => ?_, fun e v h => ?_⟩
  · exact ⟨_, exec_row_of_asks h, rfl, State.setFlow_flow_self s f _, changesOnly_serve s _ _⟩
  · exact ⟨_, exec_row_of_asks h, rfl, State.setDemand_flow_self s f _, changesOnly_serve s _ _⟩
  · refine ⟨_, exec_row_of_asks h, rfl, ?_, changesOnly_serve s _ _⟩
    rw [State.serve, State.withRunning_arb, State.setArb_arb_self, Arbiter.reconfigure, budget_reconfigured]

/-! ## At the Link Interface -/

/-- Settles O44, by the entry that each request writes. -/
theorem linkInterfaceTakesViews : Obligations.LinkInterfaceTakesViews := by
  refine fun s j rest => ⟨fun f e h => ?_, fun k x h => ?_⟩
  · exact ⟨_, exec_row_of_asks h, rfl, fun g => Table.get_put _ _ _ _, changesOnly_serve s _ _⟩
  · exact ⟨_, exec_row_of_asks h, rfl, fun g => Table.get_put _ _ _ _, changesOnly_serve s _ _⟩

/-! ## At the Rate Engine -/

theorem State.isOff_iff (s : State) (f : Flow) : s.isOff f = true ↔ Off s f := beq_iff_eq

/-- Settles O45, by the two entries of R18 and R20. -/
theorem flowModeAtRateEngine : Obligations.FlowModeAtRateEngine := by
  refine fun s j f rest => ⟨fun h => ?_, fun h => ?_⟩
  · refine ⟨_, exec_row_of_asks h, rfl, fun hoff => ?_, fun hon => ?_⟩
    · rw [State.serve, if_pos ((s.isOff_iff f).2 hoff)]
      exact ⟨State.setRflow_rflow_self s f _, (changesOnly_setRflow (by simp)).trans (changesOnly_withRunning (by simp))⟩
    · rw [State.serve, if_neg fun ho => hon ((s.isOff_iff f).1 ho)]
      exact changesOnly_withRunning (by simp)
  · refine ⟨_, exec_row_of_asks h, rfl, fun later hlater => ⟨h.1, rfl, hlater⟩, State.setRflow_rflow_self s f _,
      changesOnly_serve s _ _⟩

theorem clampNat_of_lt {lo hi v : Nat} (h : v < lo) : clampNat lo hi v = lo := by
  rw [clampNat]; omega

theorem clampNat_of_ge {lo hi v : Nat} (h : lo ≤ v) (hle : lo ≤ hi) : clampNat lo hi v = min v hi := by
  rw [clampNat]; omega

/-- Settles O46, by the two clamps of a bound request and the table of a capacity request. -/
theorem rateEngineTakesBounds : Obligations.RateEngineTakesBounds := by
  refine fun s j rest => ⟨fun f v h hceiling hcapacity => ?_, fun e n h => ?_⟩
  · have hflow : (s.serve { j with todo := rest } (.bound f v)).rflow f =
        { view := v
          ctl := (s.rflow f).ctl.rebound v (Table.get s.rate.capacity v.port)
            (Table.get s.rate.profiles v.profile).integratorClamp } := by
      rw [State.serve, State.withRunning_rflow, State.setRflow_rflow_self]
    have hle : v.floor ≤ min v.ceiling (Table.get s.rate.capacity v.port) := by omega
    refine ⟨_, exec_row_of_asks h, rfl, ?_, fun hoff => ?_, fun hon => ⟨fun hlt => ?_, fun hge => ?_⟩, ?_, ?_,
      changesOnly_serve s _ _⟩
    · rw [hflow]
    · rw [hflow]; exact if_pos hoff
    · rw [hflow]; exact (if_neg hon).trans (clampNat_of_lt hlt)
    · rw [hflow]; exact (if_neg hon).trans (clampNat_of_ge hge hle)
    · rw [hflow]; rfl
    · rw [hflow]; rfl
  · refine ⟨_, exec_row_of_asks h, rfl, fun k => Table.get_put _ _ _ _, fun f => ?_, changesOnly_serve s _ _⟩
    rw [State.serve, State.withRunning_rflow, State.withRate_rflow, Table.get_tab]
    simp only [State.boundTo, Bool.and_eq_true, beq_iff_eq, Bool.not_eq_true', ← Bool.not_eq_true, State.isOff_iff]

/-- Settles O47, by the profile written and the table of the flows. -/
theorem profileWritten : Obligations.ProfileWritten := by
  intro s j i w rest h old
  refine ⟨_, exec_row_of_asks h, rfl, Table.get_put_self _ _ _, fun k hk => Table.get_put_ne _ _ hk, fun f => ?_,
    changesOnly_serve s _ _⟩
  rw [State.serve, State.withRunning_rflow, State.withRate_rflow, Table.get_tab]
  rfl

/-- Whether a reshape reaches a flow, in the statements' words. -/
theorem reshapes_iff (s : State) (x : Scope) (f : Flow) : s.reshapes x f = true ↔ covers s x f = true ∧ ¬ Off s f := by
  have hscope : s.inScope x f = covers s x f := by cases x <;> rfl
  rw [State.reshapes, hscope, Bool.and_eq_true, Bool.not_eq_true', ← Bool.not_eq_true, State.isOff_iff]

theorem performed_eq (s : State) (x : Scope) :
    s.performed x = if ∃ f, covers s x f = true ∧ ¬ Off s f then x.kind else .none := by
  unfold State.performed
  refine if_congr ?_ rfl rfl
  simp only [List.any_eq_true, List.mem_finRange, true_and, reshapes_iff]

/-- Settles O48, by the flows that the reshape reaches. -/
theorem reshapeReachesFlowsInService : Obligations.ReshapeReachesFlowsInService := by
  intro s j x a rest h
  have hflow : ∀ f, (s.serve { j with todo := rest } (.reshape x a)).rflow f =
      if s.reshapes x f then (s.rflow f).reshape a else s.rflow f := fun f => by
    rw [State.serve, State.withRunning_rflow, State.withRate_rflow, Table.get_tab]
  refine ⟨_, exec_row_of_asks h, ?_, fun f hf => ?_, fun f hc hon => ?_, changesOnly_serve s _ _⟩
  · rw [State.serve, State.withRunning_running, performed_eq]
    cases x <;> rfl
  · rw [hflow, if_neg]
    rw [reshapes_iff]
    rintro ⟨hc, hon⟩
    exact hf.elim (fun hn => by rw [hc] at hn; cases hn) hon
  · rw [hflow, if_pos ((reshapes_iff s x f).2 ⟨hc, hon⟩)]
    cases a <;> exact ⟨rfl, rfl⟩

/-! ## At the monitors and at the Fault and Event Unit -/

/-- Settles O49, by the two refusals and the fields that a monitor takes. -/
theorem monitorTakesRequests : Obligations.MonitorTakesRequests := by
  refine fun s j e rest => ⟨fun enable threshold h => ⟨fun hen hdown => ?_, fun hgo => ?_⟩,
    fun h => ⟨fun hhigh => ?_, fun hlow => ?_⟩⟩
  · have ht := exec_row_of_asks h
    rw [State.serve, if_pos ⟨hen, hdown⟩] at ht
    exact ⟨_, ht, rfl, changesOnly_refuse s _ _⟩
  · have hno : ¬ (enable = some true ∧ (s.mon e).linkUp = false) := by
      rintro ⟨hen, hdown⟩
      exact hgo.elim (· hen) fun hup => by rw [hup] at hdown; cases hdown
    have ht := exec_row_of_asks h
    have hframe := changesOnly_serve s { j with todo := rest } (.monitor e enable threshold)
    rw [State.serve, if_neg hno] at ht hframe
    obtain ⟨hflows, hports⟩ := commitOf_after (u := s.setMon e ((s.mon e).configure enable threshold)) h.2.1 rfl rest
    refine ⟨_, ht, rfl, ?_, hflows, hports, hframe⟩
    obtain ⟨flows, ports, hw⟩ := (s.setMon e ((s.mon e).configure enable threshold)).commitOf_eq { j with todo := rest }
    rw [State.withRunning_mon, hw, State.withCmd_mon, State.setMon_mon_self]
    rfl
  · have ht := exec_row_of_asks h
    rw [State.serve, if_pos hhigh] at ht
    exact ⟨_, ht, rfl, changesOnly_refuse s _ _⟩
  · have hframe := changesOnly_serve s { j with todo := rest } (.tripClear e)
    have ht := exec_row_of_asks h
    rw [State.serve, if_neg (by omega)] at ht hframe
    exact ⟨_, ht, rfl, State.setMon_mon_self s e _, hframe⟩

/-- Settles O50, by the fields that each request writes. -/
theorem unitTakesRequests : Obligations.UnitTakesRequests := by
  refine fun s j rest => ⟨fun i h => ?_, fun i h => ?_, fun h => ?_, fun x h => ?_, fun x h => ?_⟩
  · exact ⟨_, exec_row_of_asks h, rfl, changesOnly_serve s _ _⟩
  · exact ⟨_, exec_row_of_asks h, rfl, fun k => Table.get_put _ _ _ _, changesOnly_serve s _ _⟩
  · exact ⟨_, exec_row_of_asks h, rfl, fun k => Table.get_const _ k, rfl, changesOnly_serve s _ _⟩
  · exact ⟨_, exec_row_of_asks h, rfl, PerPort.get_put_self _ _ _, changesOnly_serve s _ _⟩
  · refine ⟨_, exec_row_of_asks h, rfl, fun k => ?_, changesOnly_serve s _ _⟩
    rw [State.serve, State.withRunning_unit, State.withUnit_unit, PerPort.get_put_self]
    cases k <;> rfl

/-- The four slots of a summary, each in its place (R144). -/
theorem getElem_slotSummary (a : Arbiter) (upper : Bool) (n : Slot) (hn : 4 ≤ n.val ↔ upper = true) :
    (a.slotSummary upper)[n.val % 4]? = some (Table.get a.slots n) := by
  obtain ⟨n, hlt⟩ := n
  cases upper with
  | false =>
    have hn : n < 4 := by simpa using hn
    interval_cases n <;> rfl
  | true =>
    have hn : 4 ≤ n := by simpa using hn
    have hmod : n % 4 = n - 4 := by omega
    dsimp only
    rw [hmod]
    interval_cases n <;> rfl

theorem length_slotSummary (a : Arbiter) (upper : Bool) : (a.slotSummary upper).length = 4 := by cases upper <;> rfl

/-- Settles O51, by the part of the payload that each read fills. -/
theorem readsTakeEachPart : Obligations.ReadsTakeEachPart := by
  refine fun s j rest => ⟨fun f x h hp => ?_, fun f x h hp => ?_, fun e x h hp => ?_, fun e x h hp => ?_, fun e x h hp => ?_,
    fun e upper h => ?_⟩
  · refine ⟨_, exec_row_of_asks h, ?_, changesOnly_serve s _ _⟩
    simp only [State.serve, State.withRunning_running, hp, Payload.withController]
  · refine ⟨_, exec_row_of_asks h, ?_, changesOnly_serve s _ _⟩
    simp only [State.serve, State.withRunning_running, hp, Payload.withDemand]
  · refine ⟨_, exec_row_of_asks h, ?_, changesOnly_serve s _ _⟩
    simp only [State.serve, State.withRunning_running, hp, Payload.withTripFlag]
  · refine ⟨_, exec_row_of_asks h, ?_, changesOnly_serve s _ _⟩
    simp only [State.serve, State.withRunning_running, hp, Payload.withCondition, Monitor.condition]
  · refine ⟨_, exec_row_of_asks h, ?_, changesOnly_serve s _ _⟩
    simp only [State.serve, State.withRunning_running, hp, Payload.withBudget]
  · exact ⟨_, exec_row_of_asks h, ⟨_, rfl, length_slotSummary _ _, getElem_slotSummary _ _⟩, changesOnly_serve s _ _⟩

end Sys2Proof.Machine
end

section
/-! PROOFS. Commands taken: each command's row, and what the command sends or does when it is taken; O32 to O37. -/

namespace Sys2Proof.Machine

open Sys2Proof.Safety

variable {s t u : State} {j : Running} {p : MPort} {r : CommandRecord} {c : Command} {status : Status} {todo : List Request}
  {A : List Part}

/-! ## The row of a command -/

/-- The row of the opcode table that takes a command. -/
def Command.row : Command → Instr
  | .flowSet .. => .flowSet
  | .flowMode _ true => .flowModeEnable
  | .flowMode _ false => .flowModeDisable
  | .flowRead _ => .flowRead
  | .portSet .. => .portSet
  | .portRead .. => .portRead
  | .hostportSet .. => .hostportSet
  | .profileSet .. => .profileSet
  | .epochSet _ => .epochSet
  | .reshape _ .restart => .reshapeRestart
  | .reshape _ .freeze => .reshapeFreeze
  | .reshape _ .thaw => .reshapeThaw
  | .fence _ true => .fenceDrain
  | .fence _ false => .fence
  | .reserveLock => .reserveLock
  | .reserveUnlock => .reserveUnlock
  | .tripClear _ => .tripClear
  | .faultRead _ => .faultRead
  | .faultClear _ => .faultClear
  | .faultClearAll => .faultClearAll
  | .eventMask _ => .eventMask
  | .eventAck _ => .eventAck

theorem takesCommands_row (c : Command) : takesCommands c.row = true := by
  cases c with
  | flowMode f enable => cases enable <;> rfl
  | reshape x a => cases a <;> rfl
  | fence notify drain => cases drain <;> rfl
  | _ => rfl

/-- The choice byte of a FLOW_MODE. -/
theorem choice_of_flowMode {f : Flow} {enable : Bool} (h : parseCommand r = .ok (.flowMode f enable)) : choice r[3] = enable := by
  have hkind : r[0].toNat = 2 := (code_of_parseCommand h).symm
  simp only [parseCommand, hkind, structured_eq_ok, Option.map_eq_some_iff, Command.flowMode.injEq] at h
  obtain ⟨-, -, -, hc⟩ := h
  exact hc

/-- The action byte of a RESHAPE. -/
theorem parseAction_of_reshape {x : Scope} {a : Action} (h : parseCommand r = .ok (.reshape x a)) : parseAction r = some a := by
  have hkind : r[0].toNat = 9 := (code_of_parseCommand h).symm
  simp only [parseCommand, hkind, structured_eq_ok, parseReshape] at h
  split at h
  · next hx ha =>
    simp only [Option.some.injEq, Command.reshape.injEq] at h
    rw [ha, h.2]
  · cases h

/-- The drain byte of a FENCE. -/
theorem choice_of_fence {notify drain : Bool} (h : parseCommand r = .ok (.fence notify drain)) : choice r[3] = drain := by
  have hkind : r[0].toNat = 10 := (code_of_parseCommand h).symm
  simp only [parseCommand, hkind, Checked.ok.injEq, Command.fence.injEq] at h
  exact h.2

/-- The index byte of a FAULT_CLEAR tells one record from all. -/
theorem index_of_faultClear (hkind : r[0].toNat = 15) (h : parseCommand r = .ok c) :
    (c = .faultClearAll → r[2] = 255#8) ∧ (∀ i, c = .faultClear i → r[2] ≠ 255#8) := by
  simp only [parseCommand, hkind] at h
  split at h
  · next hall =>
    obtain rfl := Checked.ok.inj h
    exact ⟨fun _ => hall, nofun⟩
  · next hone =>
    refine ⟨?_, fun _ _ => hone⟩
    rintro rfl
    simp [structured_eq_ok] at h

/-- The row of a command looks for records that are read as it. -/
theorem sortOf_row (h : parseCommand r = .ok c) : sortOf c.row r = true := by
  have hkind := isKind_of_parseCommand h
  have hcode := code_of_parseCommand h
  cases c with
  | flowMode f enable =>
    have hchoice := choice_of_flowMode h
    cases enable <;> simp [Command.row, sortOf, hchoice, show isKind 2 r = true from hkind]
  | reshape x a =>
    have haction := parseAction_of_reshape h
    unfold parseAction at haction
    have hk : isKind 9 r = true := hkind
    cases a <;> simp only [Command.row, sortOf, isForm, hk, Bool.true_and, beq_iff_eq] <;>
      split_ifs at haction <;> simp_all
  | fence notify drain =>
    have hchoice := choice_of_fence h
    cases drain <;> simp [Command.row, sortOf, hchoice, show isKind 10 r = true from hkind]
  | faultClear i =>
    have hone := (index_of_faultClear hcode.symm h).2 i rfl
    simp [Command.row, sortOf, show isKind 15 r = true from hkind, hone]
  | faultClearAll =>
    have hall := (index_of_faultClear hcode.symm h).1 rfl
    simp [Command.row, sortOf, show isKind 15 r = true from hkind, hall]
  | _ => exact hkind

/-- The row of an offered command takes and begins it. -/
theorem exec_row_of_offers (h : Offers s p r) (hparse : parseCommand r = .ok c) :
    exec c.row s = .next ((s.takeFrom p).begin (fresh p r) c) := by
  rw [exec_of_offers h (takesCommands_row c) (sortOf_row hparse)]
  simp only [State.beginRecord, hparse]

/-! ## Answered in the step, or in execution -/

/-- A part that reads the same in both states may leave the frame. -/
theorem changesOnly_drop {x : Part} (h : changesOnly s t (x :: A)) (hx : x.same s t) : changesOnly s t A := by
  intro y hy
  by_cases hyx : y = x
  · exact hyx ▸ hx
  · exact h y fun hm => (List.mem_cons.1 hm).elim hyx hy

theorem writes_takeFrom (u : State) (h : Writes (s.takeFrom p) p u) :
    u.mgmt p = { s.mgmt p with commands := (s.mgmt p).commands.tail, promised := true } ∧ u.cmd.preference = p.other :=
  ⟨(h.mgmt p).trans (s.takeFrom_mgmt_self p), h.preference⟩

/-- A command that ends in the step that takes it is answered there (R126, R127). -/
theorem answeredAtOnce_endCommand (h : Writes (s.takeFrom p) p u) (r : CommandRecord) (status : Status) :
    AnsweredAtOnce s (u.endCommand { fresh p r with status := status }) p r status := by
  obtain ⟨hm, hp⟩ := writes_takeFrom u h
  refine ⟨?_, State.endCommand_running _ _, ((u.endCommand_kept _).2).trans hp⟩
  rw [show (u.endCommand { fresh p r with status := status }).mgmt p =
    answered (u.mgmt p) ({ fresh p r with status := status } : Running).response from u.endCommand_mgmt_self _, hm]
  rfl

/-- A command with requests is in execution (R126). -/
theorem sending_withRunning (h : Writes (s.takeFrom p) p u) (r : CommandRecord) (status : Status) (todo : List Request)
    (commit : Option Commit) (payload : Payload) (notify : Bool) :
    Sending s
      (u.withRunning
        (some { fresh p r with todo := todo, commit := commit, status := status, payload := payload, notify := notify }))
      p r status todo commit payload notify := by
  obtain ⟨hm, hp⟩ := writes_takeFrom u h
  exact ⟨hm, rfl, hp⟩

/-- The taking and the answer of a command that changes nothing else. -/
theorem changesOnly_answered (h : Offers s p r) (hu : changesOnly (s.takeFrom p) u (.running :: A)) (hm : .mgmt p ∈ A)
    (hp : .preference ∈ A) (status : Status) :
    changesOnly s (u.endCommand { fresh p r with status := status }) A := by
  have hall : changesOnly s (u.endCommand { fresh p r with status := status }) (.running :: A) :=
    ((changesOnly_takeFrom (by simp [hm]) (by simp [hp])).trans hu).trans
      (changesOnly_endCommand (by simp) (by simp [fresh, hm]))
  exact changesOnly_drop hall ((State.endCommand_running _ _).trans h.2.1.symm)

/-- A command that is taken, writes nothing and is answered. -/
theorem exec_answered (h : Offers s p r) (hparse : parseCommand r = .ok c)
    (hb : (s.takeFrom p).begin (fresh p r) c = (s.takeFrom p).endCommand { fresh p r with status := status }) :
    ∃ t, exec c.row s = .next t ∧ AnsweredAtOnce s t p r status ∧ changesOnly s t [.mgmt p, .preference] :=
  ⟨_, by rw [exec_row_of_offers h hparse, hb], answeredAtOnce_endCommand .refl r status,
    changesOnly_answered h (.refl _ _) (by simp) (by simp) status⟩

/-- A command that is taken, writes nothing and sends requests. -/
theorem exec_sends {commit : Option Commit} {payload : Payload} {notify : Bool} (h : Offers s p r)
    (hparse : parseCommand r = .ok c) (htodo : todo ≠ [])
    (hb : (s.takeFrom p).begin (fresh p r) c = (s.takeFrom p).launch
      { fresh p r with todo := todo, commit := commit, status := status, payload := payload, notify := notify }) :
    ∃ t, exec c.row s = .next t ∧ Sending s t p r status todo commit payload notify ∧
      changesOnly s t [.mgmt p, .preference, .running] := by
  refine ⟨_, by rw [exec_row_of_offers h hparse, hb, State.launch_of_todo _ (by exact htodo)],
    sending_withRunning .refl r status todo commit payload notify, ?_⟩
  exact (changesOnly_takeFrom (by simp) (by simp)).trans (changesOnly_withRunning (by simp))

/-- The same in the words of the statements. -/
theorem starts_of_sends {payload : Payload} {notify : Bool} (h : Offers s p r) (hparse : parseCommand r = .ok c)
    (htodo : todo ≠ [])
    (hb : (s.takeFrom p).begin (fresh p r) c = (s.takeFrom p).launch
      { fresh p r with todo := todo, status := status, payload := payload, notify := notify }) :
    Starts c.row s p r status todo payload notify := by
  obtain ⟨t, ht, hsend, hframe⟩ := exec_sends (commit := none) h hparse htodo hb
  exact ⟨t, ht, hsend, hframe.mono (by simp)⟩

/-! ## O36 and O37 -/

/-- Settles O36, by what each command has to send when it is begun. -/
theorem commandsSendTheirRequests : Obligations.CommandsSendTheirRequests := by
  intro s p r h
  refine ⟨fun f hp => ?_, fun f hp => ?_, fun x hp => ?_, fun x a hp => ?_, fun notify hp => ?_, fun e hp => ?_, fun i hp => ?_,
    fun i hp => ?_, fun hp => ?_, fun x hp => ?_, fun x hp => ?_, fun f hp => ?_, fun e hp => ?_, fun e hp => ?_, fun e hp => ?_⟩
  · exact starts_of_sends h hp (by simp) rfl
  · exact starts_of_sends h hp (by simp) rfl
  · exact starts_of_sends h hp (by simp) rfl
  · have hstart := starts_of_sends (todo := [.reshape x.coarsened a]) (status := .done) (payload := .absent)
      (notify := false) h hp
      (by simp) rfl
    refine ⟨?_, ?_, ?_⟩ <;> rintro rfl <;> cases x <;> exact hstart
  · exact starts_of_sends h hp (by simp) rfl
  · exact starts_of_sends h hp (by simp) rfl
  · exact starts_of_sends h hp (by simp) rfl
  · exact starts_of_sends h hp (by simp) rfl
  · exact starts_of_sends h hp (by simp) rfl
  · exact starts_of_sends h hp (by simp) rfl
  · exact starts_of_sends h hp (by simp) rfl
  · exact ⟨_, rfl, starts_of_sends h hp (by simp) rfl⟩
  · exact ⟨_, rfl, floorSum_eq _ _, starts_of_sends h hp (by simp) rfl⟩
  · exact starts_of_sends h hp (by simp) rfl
  · exact starts_of_sends h hp (by simp) rfl

/-- Settles O37, by the taking, its answer and then the posting. -/
theorem fenceWithoutDrain : Obligations.FenceWithoutDrain := by
  intro s p r notify h hparse
  have hend := answeredAtOnce_endCommand (s := s) (p := p) .refl r .done
  have hframe := changesOnly_answered (A := [.mgmt p, .preference, .executorPosts]) h (.refl (s.takeFrom p) _) (by simp)
    (by simp) .done
  have hposts : ((s.takeFrom p).endCommand (fresh p r)).cmd.posts = s.cmd.posts :=
    changesOnly_answered (A := [.mgmt p, .preference]) h (.refl (s.takeFrom p) _) (by simp) (by simp) .done .executorPosts
      (by simp)
  have ht := exec_row_of_offers h hparse
  cases notify with
  | false => exact ⟨_, ht, hend, hposts, hframe⟩
  | true =>
    refine ⟨_, ht, hend, ?_, hframe.trans (changesOnly_post_executor (by simp))⟩
    rw [if_pos rfl, ← hposts]
    rfl

end Sys2Proof.Machine
end

section
/-! PROOFS. What a command record is read as: O31. -/

namespace Sys2Proof.Machine

open Sys2Proof.Safety

variable {s : State} {p : MPort} {r : CommandRecord} {c : Command}

/-! ## Fields of a record (R172) -/

theorem testBit_presenceOf (l : List Bool) (i : Nat) : (presenceOf l).testBit i = l.getD i false := by
  induction l generalizing i with
  | nil => simp [presenceOf]
  | cons b l ih =>
    cases i with
    | zero => cases b <;> simp [presenceOf, Nat.testBit_zero]
    | succ i =>
      have hhalf : ((if b then 1 else 0) + 2 * presenceOf l) / 2 = presenceOf l := by split <;> omega
      rw [presenceOf, Nat.testBit_succ, hhalf, ih, List.getD_cons_succ]

theorem presenceOf_lt (l : List Bool) : presenceOf l < 2 ^ l.length := by
  induction l with
  | nil => exact Nat.one_pos
  | cons b l ih =>
    rw [presenceOf, List.length_cons, Nat.pow_succ]
    split <;> omega

/-- A presence set is below its bound, and its bits are those of the fields. -/
theorem presence_spec {n bound : Nat} {l : List Bool} (h : n = presenceOf l) (hbound : 2 ^ l.length = bound) :
    n < bound ∧ ∀ i, n.testBit i = l.getD i false := by
  subst h hbound
  exact ⟨presenceOf_lt l, testBit_presenceOf l⟩

/-- A named field is read, and one that is not named is absent. -/
theorem named_eq {α : Type} {presence i : Nat} {v : α} {o : Option α} (hbit : presence.testBit i = o.isSome)
    (hv : ∀ x ∈ o, v = x) : named presence i v = o := by
  unfold named
  rw [hbit]
  cases o with
  | none => rfl
  | some x => exact congrArg some (hv x rfl)

theorem indexOf_val {n : Nat} (x : Fin n) : indexOf n x.val = some x := dif_pos x.isLt

theorem indexOf_eq_none {n v : Nat} (h : n ≤ v) : indexOf n v = none := dif_neg (by omega)

theorem namedIndex_eq {n presence i v : Nat} {o : Option (Fin n)} (hbit : presence.testBit i = o.isSome)
    (hv : ∀ x ∈ o, v = x.val) : namedIndex n presence i v = some o := by
  unfold namedIndex
  rw [hbit]
  cases o with
  | none => rfl
  | some x => rw [hv x rfl, indexOf_val]; rfl

theorem namedIndex_eq_none {n presence i v : Nat} (hbit : presence.testBit i = true) (hv : n ≤ v) :
    namedIndex n presence i v = none := by
  rw [namedIndex, if_pos hbit, indexOf_eq_none hv]; rfl

/-- A yes-or-no value read from a number. -/
theorem ne_zero_eq {n : Nat} {x : Bool} (h : x = true ↔ n ≠ 0) : (n != 0) = x := by
  cases x <;> simp_all

theorem choice_eq {b : Byte} {x : Bool} (h : x = true ↔ b ≠ 0) : choice b = x := by
  cases x <;> simp_all [choice]

theorem parseFlowSet_of_carries {f : Flow} {w : FlowWrite} (h : CarriesFlowSet r f w) : parseFlowSet r = some (.flowSet f w) := by
  obtain ⟨-, hf, hpresence, hport, hgroup, hurgency, hweight, hfloor, hceiling, hburst, hprofile, htrip⟩ := h
  obtain ⟨hlt, hbit⟩ := presence_spec (bound := 512) hpresence (by simp)
  unfold parseFlowSet
  dsimp only [be16]
  rw [if_neg (Nat.not_le.2 hlt), hf, indexOf_val, namedIndex_eq (hbit 0) hport, namedIndex_eq (hbit 7) hprofile,
    named_eq (hbit 1) hgroup, named_eq (hbit 2) hurgency, named_eq (hbit 3) hweight, named_eq (hbit 4) hfloor,
    named_eq (hbit 5) hceiling, named_eq (hbit 6) hburst, named_eq (hbit 8) fun x hx => ne_zero_eq (htrip x hx)]

theorem parsePortSet_of_carries {e : TargetPort} {w : PortWrite} (h : CarriesPortSet r e w) :
    parsePortSet r = some (.portSet e w) := by
  obtain ⟨-, he, hpresence, hcapacity, hreserve, hmax, hmin, hlife, hurgent, hmask, hthreshold, henable⟩ := h
  obtain ⟨hlt, hbit⟩ := presence_spec (bound := 512) hpresence (by simp)
  unfold parsePortSet
  dsimp only [be16]
  rw [if_neg (Nat.not_le.2 hlt), he, indexOf_val, named_eq (hbit 0) hcapacity, named_eq (hbit 1) hreserve,
    named_eq (hbit 2) hmax, named_eq (hbit 3) hmin, named_eq (hbit 4) hlife, named_eq (hbit 5) hurgent,
    named_eq (hbit 6) hmask, named_eq (hbit 7) hthreshold, named_eq (hbit 8) fun x hx => ne_zero_eq (henable x hx)]
  rfl

theorem parseHostportSet_of_carries {h : HostPort} {w : HostWrite} (hc : CarriesHostportSet r h w) :
    parseHostportSet r = some (.hostportSet h w) := by
  obtain ⟨-, hh, hpresence, htagged, hlimit⟩ := hc
  obtain ⟨hlt, hbit⟩ := presence_spec (bound := 4) hpresence (by simp)
  unfold parseHostportSet
  dsimp only [be16]
  rw [if_neg (Nat.not_le.2 hlt), hh, indexOf_val, named_eq (hbit 0) fun x hx => choice_eq (htagged x hx),
    named_eq (hbit 1) hlimit]
  rfl

/-- The top bit of a byte tells the section of a PROFILE_SET. -/
theorem getLsbD_seven (b : Byte) : b.getLsbD 7 = decide (128 ≤ b.toNat) := by
  rw [BitVec.getLsbD, Nat.testBit_eq_decide_div_mod_eq]
  have := b.isLt
  exact decide_eq_decide.2 (by omega)

theorem parseProfileSet_of_carries {i : ProfileIx} {w : ProfileWrite} (h : CarriesProfileSet r i w) :
    parseProfileSet r = some (.profileSet i w) := by
  obtain ⟨-, hi, ⟨hpresence, hkp, hkps, hki, hkis, hpos, hneg, hstart, h₁, h₂, h₃, h₄⟩ |
    ⟨hpresence, hint, hstep, hhold, hwind, h₁, h₂, h₃, h₄, h₅, h₆, h₇⟩⟩ := h
  · obtain ⟨hlt, hbit⟩ := presence_spec (bound := 128) hpresence (by simp)
    obtain ⟨kp, kpShift, ki, kiShift, pos, neg, start, int, step, hold, wind⟩ := w
    obtain ⟨rfl, rfl, rfl, rfl⟩ : int = none ∧ step = none ∧ hold = none ∧ wind = none := ⟨h₁, h₂, h₃, h₄⟩
    have hsection : r[3].getLsbD 7 = false := by
      rw [getLsbD_seven]; exact decide_eq_false (Nat.not_le.2 hlt)
    unfold parseProfileSet
    dsimp only
    rw [hsection, if_neg Bool.false_ne_true, hi, indexOf_val, Nat.mod_eq_of_lt hlt, profileWrite0]
    dsimp only [be16]
    rw [named_eq (hbit 0) hkp, named_eq (hbit 1) hkps, named_eq (hbit 2) hki, named_eq (hbit 3) hkis,
      named_eq (hbit 4) hpos, named_eq (hbit 5) hneg, named_eq (hbit 6) hstart]
    rfl
  · obtain ⟨presence, hp⟩ : ∃ n, n = presenceOf
        [w.integratorClamp.isSome, w.startStep.isSome, w.startHold.isSome, w.windupStop.isSome] := ⟨_, rfl⟩
    obtain ⟨hlt, hbit⟩ := presence_spec (bound := 16) hp (by simp)
    rw [← hp] at hpresence
    obtain ⟨kp, kpShift, ki, kiShift, pos, neg, start, int, step, hold, wind⟩ := w
    obtain ⟨rfl, rfl, rfl, rfl, rfl, rfl, rfl⟩ : kp = none ∧ kpShift = none ∧ ki = none ∧ kiShift = none ∧ pos = none ∧
      neg = none ∧ start = none := ⟨h₁, h₂, h₃, h₄, h₅, h₆, h₇⟩
    have hsection : r[3].getLsbD 7 = true := by
      rw [getLsbD_seven]; exact decide_eq_true (by omega)
    have hmod : r[3].toNat % 128 = presence := by omega
    unfold parseProfileSet
    dsimp only
    rw [hsection, if_pos rfl, hmod, if_neg (Nat.not_le.2 hlt), hi, indexOf_val, profileWrite1]
    have hclamp : be24 r[4] r[5] r[6] = r[4].toNat * 65536 + r[5].toNat * 256 + r[6].toNat := by rw [be24]; omega
    rw [hclamp]
    dsimp only [be16]
    rw [named_eq (hbit 0) hint, named_eq (hbit 1) hstep, named_eq (hbit 2) hhold,
      named_eq (hbit 3) fun x hx => choice_eq (hwind x hx)]
    rfl

theorem parseScope_of_carries {x : Scope} (h : CarriesScope r x) : parseScope r = some x := by
  unfold parseScope
  cases x with
  | flowset base mask =>
    obtain ⟨h₀, hbase, hmask, hle⟩ := h
    rw [if_pos (show r[2] = 0#8 from h₀), hbase, indexOf_val]
    subst hmask
    exact if_pos hle
  | group g =>
    obtain ⟨h₁, hg⟩ := h
    rw [h₁, hg, indexOf_val]; rfl
  | port e =>
    obtain ⟨h₂, he⟩ := h
    rw [h₂, he, indexOf_val]; rfl
  | all =>
    rw [show r[2] = 3 from h]; rfl

theorem byte_eq {b : Byte} {n : Nat} (h : b.toNat = n) : b = BitVec.ofNat 8 n := by
  rw [← h, BitVec.ofNat_toNat, BitVec.setWidth_eq]

theorem parseReshape_of_carries {x : Scope} {a : Action} (hx : CarriesScope r x) (ha : r[3].toNat = actionCode a) :
    parseReshape r = some (.reshape x a) := by
  have haction : parseAction r = some a := by
    unfold parseAction
    cases a <;> rw [byte_eq ha] <;> rfl
  rw [parseReshape, parseScope_of_carries hx, haction]

theorem periodOf_of_code {b : Byte} {x : Period} (h : b.toNat = periodCode x) : periodOf b = some x := by
  cases x <;> rw [byte_eq h] <;> rfl

theorem causesOf_eq {b : Byte} {x : CauseSet} (h : CarriesCauses b x) : causesOf b = x := by
  obtain ⟨h₁, h₂, h₃, h₄, h₅⟩ := h
  rw [causesOf, ← h₁, ← h₂, ← h₃, ← h₄, ← h₅]

/-- A record that carries a command's fields is read as it (R171, R172). -/
theorem parseCommand_of_carries (h : Carries r c) : parseCommand r = .ok c := by
  have kind : ∀ {n : Byte}, r[0] = n → r[0].toNat = n.toNat := fun h => congrArg BitVec.toNat h
  cases c with
  | flowSet f w => simp only [parseCommand, show r[0].toNat = 1 from kind h.1, parseFlowSet_of_carries h, structured]
  | flowMode f enable =>
    obtain ⟨hk, hf, hchoice⟩ := h
    simp only [parseCommand, show r[0].toNat = 2 from kind hk, hf, indexOf_val, choice_eq hchoice, Option.map_some, structured]
  | flowRead f =>
    obtain ⟨hk, hf⟩ := h
    simp only [parseCommand, show r[0].toNat = 3 from kind hk, hf, indexOf_val, Option.map_some, structured]
  | portSet e w => simp only [parseCommand, show r[0].toNat = 4 from kind h.1, parsePortSet_of_carries h, structured]
  | portRead e sect =>
    obtain ⟨hk, he, hsect⟩ := h
    simp only [parseCommand, show r[0].toNat = 5 from kind hk, he, hsect, indexOf_val, Option.bind_some, Option.map_some,
      structured]
  | hostportSet k w => simp only [parseCommand, show r[0].toNat = 6 from kind h.1, parseHostportSet_of_carries h, structured]
  | profileSet i w => simp only [parseCommand, show r[0].toNat = 7 from kind h.1, parseProfileSet_of_carries h, structured]
  | epochSet x =>
    obtain ⟨hk, hx⟩ := h
    simp only [parseCommand, show r[0].toNat = 8 from kind hk, periodOf_of_code hx, Option.map_some, structured]
  | reshape x a =>
    obtain ⟨hk, hx, ha⟩ := h
    simp only [parseCommand, show r[0].toNat = 9 from kind hk, parseReshape_of_carries hx ha, structured]
  | fence notify drain =>
    obtain ⟨hk, hn, hd⟩ := h
    simp only [parseCommand, show r[0].toNat = 10 from kind hk, choice_eq hn, choice_eq hd]
  | reserveLock => simp only [parseCommand, show r[0].toNat = 11 from kind h]
  | reserveUnlock => simp only [parseCommand, show r[0].toNat = 12 from kind h]
  | tripClear e =>
    obtain ⟨hk, he⟩ := h
    simp only [parseCommand, show r[0].toNat = 13 from kind hk, he, indexOf_val, Option.map_some, structured]
  | faultRead i =>
    obtain ⟨hk, hi⟩ := h
    simp only [parseCommand, show r[0].toNat = 14 from kind hk, hi, indexOf_val, Option.map_some, structured]
  | faultClear i =>
    obtain ⟨hk, hi⟩ := h
    have hne : r[2] ≠ 255#8 := fun he => by
      have : (255#8).toNat = i.val := by rw [← he, hi]
      have := i.isLt
      simp at *; omega
    simp only [parseCommand, show r[0].toNat = 15 from kind hk, if_neg hne, hi, indexOf_val, Option.map_some, structured]
  | faultClearAll =>
    obtain ⟨hk, hall⟩ := h
    simp only [parseCommand, show r[0].toNat = 15 from kind hk]
    exact if_pos hall
  | eventMask x =>
    obtain ⟨hk, hx⟩ := h
    simp only [parseCommand, show r[0].toNat = 16 from kind hk, causesOf_eq hx]
  | eventAck x =>
    obtain ⟨hk, hx⟩ := h
    simp only [parseCommand, show r[0].toNat = 17 from kind hk, causesOf_eq hx]

/-! ## Records out of range (R129) -/

theorem structured_none {o : Option Command} (h : o = none) : structured o = .range := by rw [h]; rfl

theorem map_indexOf_eq_none {n v : Nat} {form : Fin n → Command} (h : n ≤ v) : (indexOf n v).map form = none := by
  rw [indexOf_eq_none h]; rfl

theorem parseFlowSet_of_outOfRange
    (h : 95 < r[2].toNat ∨ 511 < be16 r[3] r[4] ∨ ((be16 r[3] r[4]).testBit 0 = true ∧ 7 < r[5].toNat) ∨
      ((be16 r[3] r[4]).testBit 7 = true ∧ 7 < r[15].toNat / 16)) : parseFlowSet r = none := by
  unfold parseFlowSet
  dsimp only
  split
  · rfl
  · next hpresence =>
    obtain h | h | ⟨hbit, h⟩ | ⟨hbit, h⟩ := h
    · rw [indexOf_eq_none h]
    · omega
    · rw [namedIndex_eq_none (n := 8) hbit h]
      split <;> first | rfl | contradiction
    · rw [namedIndex_eq_none (n := 8) hbit h]
      split <;> first | rfl | contradiction

theorem parsePortSet_of_outOfRange (h : 7 < r[2].toNat ∨ 511 < be16 r[3] r[4]) : parsePortSet r = none := by
  unfold parsePortSet
  dsimp only
  split
  · rfl
  · exact map_indexOf_eq_none (by omega)

theorem portRead_of_outOfRange (h : 7 < r[2].toNat ∨ 2 < r[3].toNat) :
    ((indexOf 8 r[2].toNat).bind fun e => (indexOf 3 r[3].toNat).map fun n => Command.portRead e n) = none := by
  obtain h | h := h
  · rw [indexOf_eq_none h]; rfl
  · rw [Option.bind_eq_none_iff]
    exact fun e _ => map_indexOf_eq_none h

theorem parseHostportSet_of_outOfRange (h : 23 < r[2].toNat ∨ 3 < r[3].toNat) : parseHostportSet r = none := by
  unfold parseHostportSet
  dsimp only
  split
  · rfl
  · exact map_indexOf_eq_none (by omega)

theorem parseProfileSet_of_outOfRange
    (h : 7 < r[2].toNat ∨ (r[3].getLsbD 7 = true ∧ (r[3].getLsbD 4 = true ∨ r[3].getLsbD 5 = true ∨ r[3].getLsbD 6 = true))) :
    parseProfileSet r = none := by
  unfold parseProfileSet
  dsimp only
  obtain h | ⟨hsection, h⟩ := h
  · split
    · split
      · rfl
      · exact map_indexOf_eq_none h
    · exact map_indexOf_eq_none h
  · have hpresence : 16 ≤ r[3].toNat % 128 := by
      simp only [BitVec.getLsbD, Nat.testBit_eq_decide_div_mod_eq, decide_eq_true_eq] at h
      omega
    rw [hsection, if_pos rfl, if_pos hpresence]

theorem parseScope_of_outOfRange
    (h : 3 < r[2].toNat ∨ (r[2] = 0 ∧ (95 < r[4].toNat ∨ 6 < r[5].toNat)) ∨ ((r[2] = 1 ∨ r[2] = 2) ∧ 7 < r[4].toNat)) :
    parseScope r = none := by
  unfold parseScope
  obtain h | ⟨h₀, h⟩ | ⟨h₁ | h₂, h⟩ := h
  · have ne : ∀ n : Nat, n ≤ 3 → r[2] ≠ BitVec.ofNat 8 n := fun n hn he => by
      have := congrArg BitVec.toNat he
      rw [BitVec.toNat_ofNat] at this
      omega
    rw [if_neg (ne 0 (by omega)), if_neg (ne 1 (by omega)), if_neg (ne 2 (by omega)), if_neg (ne 3 (by omega))]
  · rw [if_pos (show r[2] = 0#8 from h₀)]
    obtain h | h := h
    · rw [indexOf_eq_none h]
    · split
      · exact if_neg (by omega)
      · rfl
  · rw [h₁, indexOf_eq_none h]; rfl
  · rw [h₂, indexOf_eq_none h]; rfl

theorem parseAction_of_outOfRange (h : 2 < r[3].toNat) : parseAction r = none := by
  have ne : ∀ n : Nat, n ≤ 2 → r[3] ≠ BitVec.ofNat 8 n := fun n hn he => by
    have := congrArg BitVec.toNat he
    rw [BitVec.toNat_ofNat] at this
    omega
  unfold parseAction
  rw [if_neg (ne 0 (by omega)), if_neg (ne 1 (by omega)), if_neg (ne 2 (by omega))]

theorem periodOf_of_outOfRange {b : Byte} (h : 3 < b.toNat) : periodOf b = none := by
  have ne : ∀ n : Nat, n ≤ 3 → b ≠ BitVec.ofNat 8 n := fun n hn he => by
    have := congrArg BitVec.toNat he
    rw [BitVec.toNat_ofNat] at this
    omega
  unfold periodOf
  rw [if_neg (ne 0 (by omega)), if_neg (ne 1 (by omega)), if_neg (ne 2 (by omega)), if_neg (ne 3 (by omega))]

theorem parseReshape_of_outOfRange
    (h : 2 < r[3].toNat ∨ 3 < r[2].toNat ∨ (r[2] = 0 ∧ (95 < r[4].toNat ∨ 6 < r[5].toNat)) ∨
      ((r[2] = 1 ∨ r[2] = 2) ∧ 7 < r[4].toNat)) : parseReshape r = none := by
  unfold parseReshape
  obtain h | h := h
  · rw [parseAction_of_outOfRange h]
    split <;> first | rfl | contradiction
  · rw [parseScope_of_outOfRange h]

/-- A record that is out of range is read as no command. -/
theorem parseCommand_of_outOfRange (h : outOfRange r = true) : parseCommand r = .range := by
  unfold outOfRange at h
  dsimp only at h
  split at h <;> rename_i hkind
  case h_13 => cases h
  all_goals
    simp only [parseCommand, hkind]
    simp only [Bool.or_eq_true, Bool.and_eq_true, decide_eq_true_eq, or_assoc] at h
  case h_1 => exact structured_none (parseFlowSet_of_outOfRange h)
  case h_2 | h_3 | h_10 | h_11 => exact structured_none (map_indexOf_eq_none h)
  case h_4 => exact structured_none (parsePortSet_of_outOfRange h)
  case h_5 => exact structured_none (portRead_of_outOfRange h)
  case h_6 => exact structured_none (parseHostportSet_of_outOfRange h)
  case h_7 => exact structured_none (parseProfileSet_of_outOfRange h)
  case h_8 => exact structured_none (by rw [periodOf_of_outOfRange h]; rfl)
  case h_9 => exact structured_none (parseReshape_of_outOfRange h)
  case h_12 =>
    rw [if_neg (show ¬ r[2] = 255#8 from h.2)]
    exact structured_none (map_indexOf_eq_none h.1)

/-- A record that is read as no command is answered in the step that takes it (R129). -/
theorem exec_refused {row : Instr} {status : Status} (h : Offers s p r) (hc : takesCommands row = true)
    (hsort : sortOf row r = true)
    (hb : (s.takeFrom p).beginRecord p r = (s.takeFrom p).endCommand { fresh p r with status := status }) :
    exec row s = .next ((s.takeFrom p).endCommand { fresh p r with status := status }) := by
  rw [exec_of_offers h hc hsort, hb]

/-- Settles O31, by what each record is read as. -/
theorem commandRecordsChecked : Obligations.CommandRecordsChecked := by
  refine ⟨fun r c => parseCommand_of_carries, fun s p r h => ⟨fun hkind => ?_, fun hrange => ?_⟩⟩
  · have hp := parseCommand_of_kind hkind
    have hb : (s.takeFrom p).beginRecord p r = (s.takeFrom p).endCommand { fresh p r with status := .refusedUnknown } := by
      simp only [State.beginRecord, hp]
    exact ⟨_, exec_refused h rfl (by simp [sortOf, hp]) hb, exec_refused h rfl rfl hb,
      answeredAtOnce_endCommand .refl r _, changesOnly_answered h (.refl _ _) (by simp) (by simp) _⟩
  · have hb : (s.takeFrom p).beginRecord p r = (s.takeFrom p).endCommand { fresh p r with status := .refusedRange } := by
      simp only [State.beginRecord, parseCommand_of_outOfRange hrange]
    exact ⟨_, exec_refused h rfl rfl hb,
      answeredAtOnce_endCommand .refl r _, changesOnly_answered h (.refl _ _) (by simp) (by simp) _⟩

end Sys2Proof.Machine
end

section
/-! PROOFS. FLOW_SET, PORT_SET, HOSTPORT_SET and PROFILE_SET when they are taken: O32 to O35. -/

namespace Sys2Proof.Machine

open Sys2Proof.Safety

variable {s t u : State} {p : MPort} {r : CommandRecord} {c : Command} {status : Status} {todo : List Request} {A : List Part}

/-! ## Values clamped (R136) -/

theorem clampNat_zero (hi v : Nat) : clampNat 0 hi v = min v hi := by
  rw [clampNat]; omega

theorem clampNat_comm (lo hi v : Nat) : clampNat lo hi v = max lo (min v hi) := by
  rw [clampNat, Nat.min_comm]

/-- A clamp moves the values outside its range. -/
theorem moved_clampNat {clamp : Nat → Nat} {lo hi : Nat} (h : ∀ v, clamp v = clampNat lo hi v) (hle : lo ≤ hi) (o : Option Nat) :
    moved clamp o = o.any fun v => v < lo || hi < v := by
  cases o with
  | none => rfl
  | some v =>
    rw [Bool.eq_iff_iff]
    simp only [moved, h, bne_iff_ne, ne_eq, clampNat, Option.any_some, Bool.or_eq_true, decide_eq_true_eq]
    omega

theorem moved_clampNat_zero {clamp : Nat → Nat} {hi : Nat} (h : ∀ v, clamp v = min v hi) (o : Option Nat) :
    moved clamp o = o.any (hi < ·) := by
  cases o with
  | none => rfl
  | some v =>
    rw [Bool.eq_iff_iff]
    simp only [moved, h, bne_iff_ne, ne_eq, Option.any_some, decide_eq_true_eq]
    omega

theorem flowAfter_eq (w : FlowWrite) (c : FlowConfig) : flowAfter w c = (w.onto c).raiseCeiling := by
  have hcells : clampCells = fun v => min v 16383 := funext (clampNat_zero 16383)
  have hweight : clampWeight = fun v => max 1 (min v 255) := funext (clampNat_comm 1 255)
  have hburst : clampBurst = fun v => max 16 (min v 65535) := funext (clampNat_comm 16 65535)
  rw [flowAfter, FlowWrite.onto, hcells, hweight, hburst]
  rfl

theorem flowClamped_eq (w : FlowWrite) (c : FlowConfig) : flowClamped w c = w.clamps c := by
  have hcells : clampCells = fun v => min v 16383 := funext (clampNat_zero 16383)
  have hfin : ∀ v, (clampFin8 v).val = min v 7 := fun _ => rfl
  rw [flowClamped, FlowWrite.clamps, moved_clampNat_zero hfin, moved_clampNat_zero hfin,
    moved_clampNat (clamp := clampWeight) (fun _ => rfl) (by omega), moved_clampNat_zero (clamp := clampCells) (clampNat_zero _),
    moved_clampNat_zero (clamp := clampCells) (clampNat_zero _),
    moved_clampNat (clamp := clampBurst) (fun _ => rfl) (by omega), FlowWrite.onto, hcells]

theorem portAfter_eq (w : PortWrite) (c : PortConfig) : portAfter w c = w.onto c := by
  have hcapacity : clampCapacity = fun v => max 16 (min v 16383) := funext (clampNat_comm 16 16383)
  have hmax : clampMaxGrant = fun v => max 1 (min v 1024) := funext (clampNat_comm 1 1024)
  have hmin : clampMinGrant = fun v => max 1 (min v 64) := funext (clampNat_comm 1 64)
  have hlife : clampLifetime = fun v => max 1 (min v 15) := funext (clampNat_comm 1 15)
  have hurgent : clampUrgentSlots = fun v => min v 2 := funext (clampNat_zero 2)
  have hmask : clampClassMask = fun v => min v 7 := funext (clampNat_zero 7)
  rw [portAfter, PortWrite.onto, hcapacity, hmax, hmin, hlife, hurgent, hmask]

theorem portClamped_eq (w : PortWrite) (c : PortConfig) : portClamped w c = w.clamps c := by
  rw [portClamped, PortWrite.clamps, moved_clampNat (clamp := clampCapacity) (fun _ => rfl) (by omega),
    moved_clampNat_zero (clamp := fun v => min v (w.onto c).capacity) (fun _ => rfl),
    moved_clampNat (clamp := clampMaxGrant) (fun _ => rfl) (by omega),
    moved_clampNat (clamp := clampMinGrant) (fun _ => rfl) (by omega),
    moved_clampNat (clamp := clampLifetime) (fun _ => rfl) (by omega),
    moved_clampNat_zero (clamp := clampUrgentSlots) (clampNat_zero _),
    moved_clampNat_zero (clamp := clampClassMask) (clampNat_zero _),
    moved_clampNat (clamp := clampThreshold) (fun _ => rfl) (by omega), portAfter_eq]

/-! ## Commands that write the executor's records -/

/-- A command that writes the executor's records and then sends its requests, or is answered where it has none. -/
theorem executed_launch (h : Writes (s.takeFrom p) p u) (r : CommandRecord) (status : Status) (todo : List Request) :
    Executed s (u.launch { fresh p r with status := status, todo := todo }) p r status todo := by
  unfold Executed
  split
  · next hnil =>
    subst hnil
    rw [State.launch_of_nil u (by rfl)]
    exact answeredAtOnce_endCommand h r status
  · next htodo =>
    rw [State.launch_of_todo u (by exact htodo)]
    exact sending_withRunning h r status todo none .absent false

theorem changesOnly_launched {x : List Part} {j : Running} (hu :
    changesOnly (s.takeFrom p) u ([.mgmt p, .preference, .running] ++ x))
    (hj : j.port = p) : changesOnly s (u.launch j) ([.mgmt p, .preference, .running] ++ x) :=
  ((changesOnly_takeFrom (by simp) (by simp)).trans hu).trans (changesOnly_launch (by simp) (by simp [hj]))

/-! ## FLOW_SET (R137, R138) -/

section
variable {f : Flow} {w : FlowWrite} {j : Running}

/-- The lock check. -/
theorem beginFlowSet_of_locked (hlock : s.cmd.lockClosed = true)
    (hfloor : (flowAfter w (Table.get s.cmd.flows f)).floor ≠ (Table.get s.cmd.flows f).floor) :
    s.beginFlowSet j f w = s.endCommand { j with status := .refusedLocked } := by
  rw [flowAfter_eq] at hfloor
  simp [State.beginFlowSet, hlock, hfloor]

/-- Past the lock check. -/
theorem beginFlowSet_of_unlocked
    (hopen : s.cmd.lockClosed = false ∨ (flowAfter w (Table.get s.cmd.flows f)).floor = (Table.get s.cmd.flows f).floor) :
    s.beginFlowSet j f w =
      let c := Table.get s.cmd.flows f
      let x := flowAfter w c
      if (c.floor < x.floor ∨ (x.port ≠ c.port ∧ 0 < x.floor)) ∧
          (Table.get s.cmd.ports x.port).reserve < floorsNaming (Table.put s.cmd.flows f x) x.port then
        s.endCommand { j with status := .refusedReserve }
      else if x.port ≠ c.port then
        s.launch { j with
          status := okStatus (flowClamped w c), todo := .release f c.port :: flowRequests f c x, commit := some (.flow f x) }
      else (s.commit (.flow f x)).launch { j with status := okStatus (flowClamped w c), todo := flowRequests f c x } := by
  rw [flowAfter_eq] at hopen
  unfold State.beginFlowSet
  dsimp only
  rw [if_neg, flowAfter_eq, flowClamped_eq, floorSum_eq]
  · rfl
  · rw [Bool.and_eq_true, bne_iff_ne]
    rintro ⟨hlock, hfloor⟩
    exact hopen.elim (fun hl => by rw [hl] at hlock; cases hlock) hfloor

end

/-- Settles O32, by the two checks in their order. -/
theorem flowSetRefused : Obligations.FlowSetRefused := by
  intro s p r f w h hparse c x
  refine ⟨fun hlock hfloor => ?_, fun hopen hchange hreserve => ?_⟩
  · exact exec_answered h hparse (beginFlowSet_of_locked (s := s.takeFrom p) hlock hfloor)
  · refine exec_answered h hparse ((beginFlowSet_of_unlocked (s := s.takeFrom p) hopen).trans ?_)
    exact if_pos ⟨hchange, hreserve⟩

/-- The requests of a FLOW_SET that keeps the port. -/
theorem flowRequests_samePort {f : Flow} {c x : FlowConfig} (hport : x.port = c.port) :
    flowRequests f c x =
      (if rateViewOf x = rateViewOf c then [] else [.bound f (rateViewOf x)]) ++
        (if arbiterViewOf x = arbiterViewOf c then [] else [.flowConfig f (arbiterViewOf x)]) := by
  simp [flowRequests, hport, ite_not]

/-- The requests of a FLOW_SET for another port, behind its release. -/
theorem flowRequests_newPort {f : Flow} {c x : FlowConfig} (hport : x.port ≠ c.port) :
    flowRequests f c x = [.flowTake f x.port (arbiterViewOf x), .bound f (rateViewOf x), .targetPort f x.port] := by
  have hview : rateViewOf x ≠ rateViewOf c := fun hv => hport (congrArg RateView.port hv)
  simp [flowRequests, hport, hview]

/-- Settles O33, by the requests of each of the two cases. -/
theorem flowSetExecuted : Obligations.FlowSetExecuted := by
  intro s p r f w h hparse c x hopen hpass
  have hno : ¬ ((c.floor < x.floor ∨ (x.port ≠ c.port ∧ 0 < x.floor)) ∧
      (Table.get s.cmd.ports x.port).reserve < floorsNaming (Table.put s.cmd.flows f x) x.port) := by
    rintro ⟨hchange, hlt⟩
    obtain ⟨hle, hp⟩ | hle := hpass
    · obtain hlt' | ⟨hport, hpos⟩ := hchange
      · omega
      · exact hp.elim hport (by omega)
    · omega
  have hbegin := beginFlowSet_of_unlocked (s := s.takeFrom p) (j := fresh p r) hopen
  refine ⟨fun hport => ?_, fun hport => ?_⟩
  · have hb : (s.takeFrom p).begin (fresh p r) (.flowSet f w) = ((s.takeFrom p).commit (.flow f x)).launch
        { fresh p r with status := okStatus (flowClamped w c), todo := flowRequests f c x } :=
      (hbegin.trans (if_neg hno)).trans (if_neg (not_not.2 hport))
    have hframe := changesOnly_launched (x := [.flowConfigs]) (s := s) (p := p) (u := (s.takeFrom p).commit (.flow f x))
      (j := { fresh p r with status := okStatus (flowClamped w c), todo := flowRequests f c x })
      (changesOnly_withCmd (flows := fun hn => absurd (by simp) hn)) rfl
    rw [← flowRequests_samePort hport]
    have ht := exec_row_of_offers h hparse
    rw [hb] at ht
    refine ⟨_, ht, ?_, executed_launch (writes_commit _) r _ _, hframe⟩
    exact changesOnly_launch (A := [.running, .mgmt p]) (by simp) (by simp [fresh]) .flowConfigs (by simp)
  · have hb : (s.takeFrom p).begin (fresh p r) (.flowSet f w) = (s.takeFrom p).launch
        { fresh p r with
          status := okStatus (flowClamped w c), todo := .release f c.port :: flowRequests f c x, commit := some (.flow f x) } :=
      (hbegin.trans (if_neg hno)).trans (if_pos hport)
    rw [← flowRequests_newPort hport]
    exact exec_sends h hparse (by simp) hb

/-! ## PORT_SET (R142, R143) -/

section
variable {e : TargetPort} {w : PortWrite} {j : Running}

theorem beginPortSet_of_locked (hlock : s.cmd.lockClosed = true)
    (hreserve : (portAfter w (Table.get s.cmd.ports e)).reserve ≠ (Table.get s.cmd.ports e).reserve) :
    s.beginPortSet j e w = s.endCommand { j with status := .refusedLocked } := by
  rw [portAfter_eq] at hreserve
  simp [State.beginPortSet, hlock, hreserve]

/-- Past the lock check. -/
theorem beginPortSet_of_unlocked
    (hopen : ¬ (s.cmd.lockClosed = true ∧ (portAfter w (Table.get s.cmd.ports e)).reserve ≠ (Table.get s.cmd.ports e).reserve)) :
    s.beginPortSet j e w =
      let c := Table.get s.cmd.ports e
      let x := portAfter w c
      if (w.capacity ≠ none ∧ w.reserve = none ∧ x.capacity < c.reserve) ∨ x.reserve < floorsNaming s.cmd.flows e then
        s.endCommand { j with status := .refusedReserve }
      else if w.enable ≠ none ∨ w.threshold ≠ none then
        s.launch { j with
          status := okStatus (portClamped w c)
          todo := .monitor e w.enable (w.threshold.map fun v => max 1 (min v 4)) :: portRequests e c x
          commit := some (.port e x) }
      else (s.commit (.port e x)).launch { j with status := okStatus (portClamped w c), todo := portRequests e c x } := by
  have hthreshold : clampThreshold = fun v => max 1 (min v 4) := funext (clampNat_comm 1 4)
  rw [portAfter_eq] at hopen
  unfold State.beginPortSet
  dsimp only
  rw [if_neg (by simpa using hopen), portAfter_eq, portClamped_eq, floorSum_eq, hthreshold]
  simp only [Option.isSome_iff_ne_none]
  by_cases hcapacity : w.capacity ≠ none ∧ w.reserve = none ∧
      (w.onto (Table.get s.cmd.ports e)).capacity < (Table.get s.cmd.ports e).reserve
  · rw [if_pos hcapacity, if_pos (.inl hcapacity)]
  · rw [if_neg hcapacity]
    by_cases hreserve : (w.onto (Table.get s.cmd.ports e)).reserve < floorsNaming s.cmd.flows e
    · rw [if_pos hreserve, if_pos (.inr hreserve)]
    · rw [if_neg hreserve, if_neg (not_or.2 ⟨hcapacity, hreserve⟩)]
      rfl

end

theorem portRequests_eq (e : TargetPort) (c x : PortConfig) :
    portRequests e c x =
      (if x.capacity = c.capacity then [] else [.capacity e x.capacity]) ++
        (if portViewOf x = portViewOf c then [] else [.port e (portViewOf x)]) := by
  simp only [portRequests, ne_eq, ite_not]

/-- Settles O34, by the checks in their order and then by the fields that are named. -/
theorem portSetChecksAndWrites : Obligations.PortSetChecksAndWrites := by
  intro s p r e w h hparse c x locked short requests
  have hrequests : requests = portRequests e c x := (portRequests_eq e c x).symm
  have hbegin : ¬ locked → _ := fun hl => beginPortSet_of_unlocked (s := s.takeFrom p) (j := fresh p r) (e := e) (w := w) hl
  refine ⟨fun hl => ?_, fun hl hs => ?_, fun hl hs hn => ?_, fun hl hs hen hth => ?_⟩
  · exact exec_answered h hparse (beginPortSet_of_locked (s := s.takeFrom p) hl.1 hl.2)
  · exact exec_answered h hparse ((hbegin hl).trans (if_pos hs))
  · rw [hrequests]
    exact exec_sends h hparse (by simp) (((hbegin hl).trans (if_neg hs)).trans (if_pos hn))
  · have hb : (s.takeFrom p).begin (fresh p r) (.portSet e w) = ((s.takeFrom p).commit (.port e x)).launch
        { fresh p r with status := okStatus (portClamped w c), todo := portRequests e c x } :=
      ((hbegin hl).trans (if_neg hs)).trans (if_neg (by simp [hen, hth]))
    have hframe := changesOnly_launched (x := [.portConfigs]) (s := s) (p := p) (u := (s.takeFrom p).commit (.port e x))
      (j := { fresh p r with status := okStatus (portClamped w c), todo := portRequests e c x })
      (changesOnly_withCmd (ports := fun hn => absurd (by simp) hn)) rfl
    rw [hrequests]
    have ht := exec_row_of_offers h hparse
    rw [hb] at ht
    refine ⟨_, ht, ?_, executed_launch (writes_commit _) r _ _, hframe⟩
    exact changesOnly_launch (A := [.running, .mgmt p]) (by simp) (by simp [fresh]) .portConfigs (by simp)

/-! ## HOSTPORT_SET and PROFILE_SET (R145, R146) -/

theorem profileAfter_eq (w : ProfileWrite) : profileAfter w = w.clamped := by
  have hcells : clampCells = (min · 16383) := funext (clampNat_zero 16383)
  have hgain : clampGain = (min · 4095) := funext (clampNat_zero 4095)
  have hshift : clampShift = (min · 15) := funext (clampNat_zero 15)
  have hint : clampIntegratorClamp = (min · 262143) := funext (clampNat_zero 262143)
  have hstep : clampStartStep = fun v => max 1 (min v 16383) := funext (clampNat_comm 1 16383)
  rw [profileAfter, ProfileWrite.clamped, hcells, hgain, hshift, hint, hstep]

theorem isEmpty_iff (w : ProfileWrite) : w.isEmpty = true ↔ w = noProfileField := by
  cases w
  simp only [ProfileWrite.isEmpty, Bool.and_eq_true, Option.isNone_iff_eq_none, noProfileField, ProfileWrite.mk.injEq, and_assoc]

/-- Settles O35, by whether the presence set is empty. -/
theorem hostportAndProfileSet : Obligations.HostportAndProfileSet := by
  intro s p r h
  refine ⟨fun k w hparse => ⟨fun hnone => ?_, fun hsome => ?_⟩, fun i w hparse => ⟨fun hnone => ?_, fun hsome => ?_⟩⟩
  · exact exec_answered h hparse (if_pos hnone)
  · intro x
    have hlimit : clampLimit = fun v => max 256 (min v 65535) := funext (clampNat_comm 256 65535)
    have hclamped : (w.limit.any fun v => v < 256 || 65535 < v) = moved clampLimit w.limit :=
      (moved_clampNat (clamp := clampLimit) (fun _ => rfl) (by omega) _).symm
    have hb : (s.takeFrom p).begin (fresh p r) (.hostportSet k w) =
        ((s.takeFrom p).withCmd { (s.takeFrom p).cmd with hosts := Table.put s.cmd.hosts k x }).withRunning
          (some { fresh p r with status := okStatus (moved clampLimit w.limit), todo := [.hostport k x] }) := by
      have hx : x =
          { tagged := w.tagged.getD (Table.get s.cmd.hosts k).tagged
            limit := (w.limit.map clampLimit).getD (Table.get s.cmd.hosts k).limit } := by rw [hlimit]
      rw [hx]
      exact (if_neg hsome).trans (State.launch_of_todo _ (by simp))
    have ht := exec_row_of_offers h hparse
    rw [hb] at ht
    rw [hclamped]
    refine ⟨_, ht, rfl, sending_withRunning ⟨fun _ => rfl, rfl, .inl rfl⟩ r _ _ none .absent false, ?_⟩
    exact ((changesOnly_takeFrom (by simp) (by simp)).trans
      (changesOnly_withCmd (hosts := fun hn => absurd (by simp) hn))).trans (changesOnly_withRunning (by simp))
  · exact exec_answered h hparse (if_pos ((isEmpty_iff w).2 hnone))
  · rw [profileAfter_eq]
    exact starts_of_sends h hparse (by simp) (if_neg fun he => hsome ((isEmpty_iff w).1 he))

end Sys2Proof.Machine
end

section
/-! PROOFS. The Fault and Event Unit, and what an external controller does to a management port: O24, O25 and O28. -/

namespace Sys2Proof.Machine

open Sys2Proof.Safety

variable {s t u : State} {e : TargetPort} {p q : MPort} {A : List Part}

/-! ## Which ports are fitted (R130) -/

theorem State.fitted_iff (s : State) (p : MPort) : s.fitted p = true ↔ ¬ (s.solo = true ∧ p = .b) := by
  cases p <;> cases h : s.solo <;> simp [State.fitted, h]

theorem State.fitted_eq (s : State) (p : MPort) : s.fitted p = !(s.solo && p == .b) := rfl

/-! ## Port clear (R131) -/

/-- A set that is empty asserts no line. -/
theorem noCauses_has (c : Cause) : noCauses.has c = false := by cases c <;> rfl

theorem allCauses_has (c : Cause) : allCauses.has c = true := by cases c <;> rfl

theorem State.eventLine_iff (s : State) (p : MPort) :
    s.eventLine p = true ↔
      ¬ (s.solo = true ∧ p = .b) ∧ ∃ c, (s.unit.pending.get p).has c = true ∧ (s.unit.mask.get p).has c = false := by
  simp only [State.eventLine, Bool.and_eq_true, s.fitted_iff, CauseSet.any_iff, CauseSet.has_without, Bool.not_eq_true']

theorem State.clearPort_mgmt_self (s : State) (p : MPort) : (s.clearPort p).mgmt p = (s.mgmt p).cleared := by
  cases p <;> rfl

theorem State.clearPort_consent (s : State) (p : MPort) : (s.clearPort p).cmd.consent = s.cmd.consent.put p false := rfl

theorem State.clearPort_posts (s : State) (p : MPort) :
    (s.clearPort p).cmd.posts = s.cmd.posts.filter fun x => !x.isTo p := rfl

theorem State.clearPort_unit (s : State) (p : MPort) :
    (s.clearPort p).unit =
      { s.unit with pending := s.unit.pending.put p noCauses, mask := s.unit.mask.put p allCauses } := rfl

/-- Settles O28, field by field of the cleared port. -/
theorem portClearEmptiesThePort : Obligations.PortClearEmptiesThePort := by
  unfold Obligations.PortClearEmptiesThePort
  intro s p hlive
  have row : exec (.portClear p) s = .next (if s.fitted p then s.clearPort p else s) :=
    s.live_of_high (fun s => if s.fitted p then s.clearPort p else s) hlive
  constructor
  · intro hsolo hp
    rw [row, if_neg (by rw [s.fitted_iff]; exact fun h => h ⟨hsolo, hp⟩)]
  intro hfitted
  rw [if_pos ((s.fitted_iff p).2 hfitted)] at row
  have pending : (s.clearPort p).unit.pending.get p = noCauses := by rw [State.clearPort_unit, PerPort.get_put_self]
  refine ⟨_, row, State.clearPort_mgmt_self s p, ?_, ?_, fun k => ?_, fun k => ?_, ?_, ?_, ?_⟩
  · rw [State.clearPort_consent, PerPort.get_put_self]
  · rw [State.clearPort_consent, PerPort.get_put, if_neg p.other_ne]
  · rw [pending, noCauses_has]
  · rw [State.clearPort_unit, PerPort.get_put_self, allCauses_has]
  · rw [← Bool.not_eq_true, State.eventLine_iff]
    rintro ⟨-, c, hc, -⟩
    rw [pending, noCauses_has] at hc
    exact nomatch hc
  · rw [State.clearPort_posts]
    refine List.filter_congr fun x _ => ?_
    cases x with
    | toBoth c => rfl
    | toPort q c => cases p <;> cases q <;> rfl
  · exact changesOnly_clearPort (by simp) (by simp) (by simp) (by simp) (by simp)

/-! ## Postings (R165) -/

theorem Posting.names_eq (x : Posting) (p : MPort) : x.names p = postedTo x p := by
  cases x with
  | toBoth c => rfl
  | toPort q c => cases p <;> cases q <;> rfl

/-- A cause posted to a port is in its set, if the port is fitted. -/
theorem State.addPending_has (s : State) (p q : MPort) (c d : Cause) :
    ((s.addPending p c).unit.pending.get q).has d =
      ((s.unit.pending.get q).has d || (decide (d = c) && decide (q = p) && s.fitted q)) := by
  rw [State.addPending_pending]
  split
  · next h =>
    obtain ⟨rfl, hfitted⟩ := h
    rw [CauseSet.has_add, hfitted, decide_eq_true rfl, Bool.and_true, Bool.and_true]
  · next h =>
    have hno : (decide (q = p) && s.fitted q) = false := by
      rw [← Bool.not_eq_true, Bool.and_eq_true, decide_eq_true_eq]
      rintro ⟨rfl, hq⟩
      exact h ⟨rfl, hq⟩
    rw [Bool.and_assoc, hno, Bool.and_false, Bool.or_false]

theorem State.addPending_fitted (s : State) (p q : MPort) (c : Cause) : (s.addPending p c).fitted q = s.fitted q := by
  obtain ⟨x, hx⟩ := s.addPending_eq p c
  rw [hx]
  rfl

/-- A posting's cause is in the set of every port that it names and that is fitted. -/
theorem State.takePosting_has (s : State) (x : Posting) (q : MPort) (d : Cause) :
    ((s.takePosting x).unit.pending.get q).has d =
      ((s.unit.pending.get q).has d || (decide (d = causeOf x) && postedTo x q && s.fitted q)) := by
  cases x with
  | toBoth c =>
    rw [State.takePosting, State.addPendingBoth, State.addPending_has, State.addPending_has, State.addPending_fitted]
    cases q <;> simp [causeOf, postedTo] <;> rfl
  | toPort p c =>
    rw [State.takePosting, State.addPending_has]
    cases p <;> cases q <;> rfl

theorem State.takePosting_mask (s : State) (x : Posting) : (s.takePosting x).unit.mask = s.unit.mask := by
  obtain ⟨y, hy⟩ := s.takePosting_eq x
  rw [hy]
  rfl

theorem State.withUnit_reportsOf (s : State) (x : FaultUnit) (src : Source) :
    (s.withUnit x).reportsOf src = s.reportsOf src := by
  cases src <;> rfl

theorem State.withUnit_postsOf (s : State) (x : FaultUnit) (src : Source) : (s.withUnit x).postsOf src = s.postsOf src := by
  cases src <;> rfl

theorem State.takePosting_postsOf (s : State) (x : Posting) (src : Source) :
    (s.takePosting x).postsOf src = s.postsOf src := by
  obtain ⟨y, hy⟩ := s.takePosting_eq x
  rw [hy, State.withUnit_postsOf]

theorem State.takePosting_reportsOf (s : State) (x : Posting) (src : Source) :
    (s.takePosting x).reportsOf src = s.reportsOf src := by
  obtain ⟨y, hy⟩ := s.takePosting_eq x
  rw [hy, State.withUnit_reportsOf]

theorem State.takePosting_mon (s : State) (x : Posting) (e : TargetPort) : (s.takePosting x).mon e = s.mon e := by
  obtain ⟨y, hy⟩ := s.takePosting_eq x
  rw [hy]
  rfl

theorem State.takePosting_solo (s : State) (x : Posting) : (s.takePosting x).solo = s.solo := by
  obtain ⟨y, hy⟩ := s.takePosting_eq x
  rw [hy]
  rfl

theorem State.setPosts_solo (s : State) (src : Source) (x : List Posting) : (s.setPosts src x).solo = s.solo := by
  cases src <;> rfl

/-- The oldest posting that names a port leaves the others as they stand. -/
theorem erase_oldest {before later : List Posting} {x : Posting} (hx : postedTo x p = true)
    (hbefore : ∀ y ∈ before, postedTo y p = false) : (before ++ x :: later).erase x = before ++ later := by
  rw [List.erase_append_right, List.erase_cons_head]
  intro hmem
  rw [hbefore x hmem] at hx
  exact nomatch hx

theorem exec_eventPost {src : Source} {x : Posting} {before later : List Posting} (hlive : Live s)
    (hposts : s.postsOf src = before ++ x :: later) (hbefore : ∀ y ∈ before, postedTo y p = false)
    (hx : postedTo x p = true) : exec (.eventPost src p) s = .next ((s.setPosts src (before ++ later)).takePosting x) := by
  have found : (s.postsOf src).find? (fun x => x.names p) = some x := by
    simp only [Posting.names_eq]
    rw [hposts, List.find?_append, List.find?_eq_none.2 (by simpa using hbefore), Option.none_or,
      List.find?_cons_of_pos (p := fun x => postedTo x p) hx]
  show execEventPost src p s = _
  rw [execEventPost, s.live_of_high _ hlive]
  simp only [found]
  rw [hposts, erase_oldest hx hbefore]

/-- Settles O25, by the row of the posting and the fields it leaves. -/
theorem postingTaken : Obligations.PostingTaken := by
  unfold Obligations.PostingTaken
  intro s src p x before later hlive hposts hbefore hx
  have posts : s.postsOf src ≠ [] := by rw [hposts]; simp
  have harb : ∀ e, src ≠ .arbiter e := by
    rintro e rfl
    exact posts rfl
  have hrate : src ≠ .rate := by
    rintro rfl
    exact posts rfl
  refine ⟨_, exec_eventPost hlive hposts hbefore hx, ?_, ?_, ?_, fun q k => ?_, fun q => ?_, ?_⟩
  · rw [State.takePosting_postsOf, s.postsOf_setPosts src _ harb hrate]
  · rw [State.takePosting_reportsOf, s.reportsOf_setPosts]
  · rintro e rfl
    rw [State.takePosting_mon, State.setPosts, State.setMon_mon_self]
  · rw [State.takePosting_has, State.setPosts_unit, State.setPosts_fitted, State.fitted_eq]
  · rw [State.eventLine_iff, State.takePosting_mask, State.takePosting_solo, State.setPosts_solo, State.setPosts_unit]
  · exact (changesOnly_setPosts (by simp)).trans (changesOnly_takePosting (by simp) (by simp))

/-! ## Fault reports (R163) -/

/-- The lowest index that passes a test. -/
theorem find?_finRange_iff {n : Nat} {test : Fin n → Bool} {i : Fin n} :
    (List.finRange n).find? test = some i ↔ test i = true ∧ ∀ k < i, test k = false := by
  rw [← Fin.find?_eq_find?_finRange, Fin.find?_eq_some_iff]

theorem find?_finRange_eq_none {n : Nat} {test : Fin n → Bool} :
    (List.finRange n).find? test = none ↔ ∀ k, test k = false := by
  rw [← Fin.find?_eq_find?_finRange, Fin.find?_eq_none_iff]

/-- FAULT in the sets of both ports, where they are fitted. -/
theorem State.addPendingBoth_fault (s : State) :
    s.addPendingBoth .fault = s.withUnit { s.unit with pending := { a := withFault s .a, b := withFault s .b } } := by
  cases h : s.solo <;> simp [State.addPendingBoth, State.addPending, State.fitted, withFault, h] <;> rfl

section
variable {r : FaultReport} {i : FaultIx} {x : FaultRecord}

theorem State.takeReport_matching (hi : Table.get s.unit.table i = some x) (hx : x.key = r)
    (hlow : ∀ k < i, ((Table.get s.unit.table k).any fun y => y.key = r) = false) :
    s.takeReport r = s.withUnit { s.unit with
      table := Table.put s.unit.table i (some { x with last := s.timer.epoch, count := min (x.count + 1) 255 }) } := by
  have found : s.unit.matching r = some i := by
    rw [FaultUnit.matching, find?_finRange_iff]
    exact ⟨by rw [hi]; simpa using hx, hlow⟩
  simp only [State.takeReport, found, hi]
  rfl

theorem FaultUnit.matching_eq_none {y : FaultUnit}
    (h : ∀ k, ((Table.get y.table k).any fun x => x.key = r) = false) : y.matching r = none := by
  rw [FaultUnit.matching, find?_finRange_eq_none]
  exact h

theorem State.takeReport_empty (hkeyed : ∀ k, ((Table.get s.unit.table k).any fun y => y.key = r) = false)
    (hi : Table.get s.unit.table i = none) (hlow : ∀ k < i, Table.get s.unit.table k ≠ none) :
    s.takeReport r = s.withUnit { s.unit with
      table := Table.put s.unit.table i (some { key := r, first := s.timer.epoch, last := s.timer.epoch, count := 1 })
      pending := { a := withFault s .a, b := withFault s .b } } := by
  have found : s.unit.lowestEmpty = some i := by
    rw [FaultUnit.lowestEmpty, find?_finRange_iff]
    exact ⟨by rw [hi]; rfl, fun k hk => Option.isNone_eq_false_iff.2 (Option.isSome_iff_ne_none.2 (hlow k hk))⟩
  simp only [State.takeReport, FaultUnit.matching_eq_none hkeyed, found, State.addPendingBoth_fault]
  rfl

theorem State.takeReport_full (hkeyed : ∀ k, ((Table.get s.unit.table k).any fun y => y.key = r) = false)
    (hfull : ∀ k, Table.get s.unit.table k ≠ none) :
    s.takeReport r =
      if s.unit.overflow then s
      else s.withUnit { s.unit with overflow := true, pending := { a := withFault s .a, b := withFault s .b } } := by
  have found : s.unit.lowestEmpty = none := by
    rw [FaultUnit.lowestEmpty, find?_finRange_eq_none]
    exact fun k => Option.isNone_eq_false_iff.2 (Option.isSome_iff_ne_none.2 (hfull k))
  simp only [State.takeReport, FaultUnit.matching_eq_none hkeyed, found, State.addPendingBoth_fault]
  rfl

theorem State.takeReport_eq (s : State) (r : FaultReport) : ∃ x, s.takeReport r = s.withUnit x := by
  have both : ∀ u : State, ∃ x, u.addPendingBoth .fault = u.withUnit x := fun u => ⟨_, u.addPendingBoth_fault⟩
  unfold State.takeReport
  split
  · exact ⟨_, rfl⟩
  · split
    · obtain ⟨x, hx⟩ := both (s.withUnit
        (s.unit.put _ (some { key := r, first := s.timer.epoch, last := s.timer.epoch, count := 1 })))
      exact ⟨x, hx⟩
    · split
      · exact ⟨s.unit, rfl⟩
      · exact both _

end

theorem exec_faultReport {src : Source} {r : FaultReport} {later : List FaultReport} (hlive : Live s)
    (hr : s.reportsOf src = r :: later) : exec (.faultReport src) s = .next ((s.setReports src later).takeReport r) := by
  show execFaultReport src s = _
  rw [execFaultReport, s.live_of_high _ hlive]
  simp only [hr]

theorem withFault_setReports (s : State) (src : Source) (x : List FaultReport) (p : MPort) :
    withFault (s.setReports src x) p = withFault s p := by
  cases src <;> rfl

/-- Settles O24, by the three outcomes of taking a report. -/
theorem faultReportTaken : Obligations.FaultReportTaken := by
  unfold Obligations.FaultReportTaken
  intro s src r later hlive hr keyed
  have hsrc : src ≠ .executor := by
    rintro rfl
    exact nomatch hr
  set u := s.setReports src later with hu
  have unit : u.unit = s.unit := s.setReports_unit src later
  have timer : u.timer = s.timer := s.setReports_timer src later
  have fault : ∀ p, withFault u p = withFault s p := withFault_setReports s src later
  obtain ⟨y, hy⟩ := u.takeReport_eq r
  refine ⟨_, exec_faultReport hlive hr, ?_, ?_, ?_, ?_, ?_, ?_, ?_, ?_⟩
  · rw [← hu, hy, State.withUnit_reportsOf, s.reportsOf_setReports src later hsrc]
  · rw [← hu, hy, State.withUnit_postsOf, s.postsOf_setReports]
  · rintro e rfl
    rw [← hu, hy, State.withUnit_arb, hu, State.setReports, State.setArb_arb_self]
  · rintro e rfl
    rw [← hu, hy, State.withUnit_mon, hu, State.setReports, State.setMon_mon_self]
  · intro i x hi hx hlow
    rw [← hu, State.takeReport_matching (by rw [unit]; exact hi) hx (by rw [unit]; exact hlow), unit, timer]
    rfl
  · intro i hkeyed hi hlow
    rw [← hu, State.takeReport_empty (by rw [unit]; exact hkeyed) (by rw [unit]; exact hi) (by rw [unit]; exact hlow), unit,
      timer, fault, fault]
    rfl
  · intro hkeyed hfull
    rw [← hu, State.takeReport_full (by rw [unit]; exact hkeyed) (by rw [unit]; exact hfull), unit, fault, fault]
    constructor
    · intro ho
      rw [if_pos ho, unit]
    · intro ho
      rw [if_neg (by rw [ho]; exact Bool.false_ne_true)]
      rfl
  · exact (changesOnly_setReports (by simp)).trans (changesOnly_takeReport (by simp) (by simp) (by simp) (by simp))

end Sys2Proof.Machine
end

section
/-! PROOFS. Drain sets and the fences that wait for them to empty: O38 and O39. -/

namespace Sys2Proof.Machine

open Sys2Proof.Safety

variable {s t u : State} {e : TargetPort} {p q : MPort} {x : Fence} {tags : List GrantTag} {A : List Part}

/-! ## The busy slots -/

theorem slotsWhere_eq (s : State) (e : TargetPort) (test : Grant → Bool) :
    slotsWhere s e test = (s.arb e).busy.filter fun y => test y.2 := by
  rw [slotsWhere, Arbiter.busy, List.filter_filterMap]
  refine List.filterMap_congr fun n _ => ?_
  rw [grantAt]
  cases (Table.get (s.arb e).slots n).grant with
  | none => rfl
  | some g => simp [Option.filter_some]

theorem slotsWhere_all (s : State) (e : TargetPort) : slotsWhere s e (fun _ => true) = (s.arb e).busy := by
  rw [slotsWhere_eq, List.filter_true]

/-! ## One fence (R159) -/

theorem State.completeFence_posts (s : State) (p : MPort) (x : Fence) :
    (s.completeFence p x).cmd.posts = if x.notify then s.cmd.posts ++ [.toPort p .fenceDone] else s.cmd.posts := by
  unfold State.completeFence
  dsimp only
  obtain ⟨m, hm⟩ := (s.setMgmt p { s.mgmt p with fence := none }).respond_eq p
    { tag := x.tag, kind := x.kind, status := .done, scope := none, payload := .absent }
  rw [hm]
  split <;> rfl

theorem State.drainPort_of_none (h : (s.mgmt p).fence = none) : s.drainPort tags p = s := by
  simp only [State.drainPort, h]

theorem State.drainPort_of_apart (hx : (s.mgmt p).fence = some x) (h : ∀ y ∈ x.drain, y ∉ tags) : s.drainPort tags p = s := by
  have hno : x.drain.any (· ∈ tags) = false := by simpa using h
  simp only [State.drainPort, hx, hno, Bool.false_eq_true, if_false]

theorem State.drainPort_of_left (hx : (s.mgmt p).fence = some x) (h : ∃ y ∈ x.drain, y ∈ tags) (hleft : ∃ y ∈ x.drain, y ∉ tags) :
    s.drainPort tags p = s.setMgmt p { s.mgmt p with fence := some { x with drain := x.drain.filter (· ∉ tags) } } := by
  have hyes : x.drain.any (· ∈ tags) = true := by simpa using h
  have hne : x.drain.filter (· ∉ tags) ≠ [] := by simpa using hleft
  simp only [State.drainPort, hx, hyes, if_true, hne, if_false]

theorem State.drainPort_of_emptied (hx : (s.mgmt p).fence = some x) (h : ∃ y ∈ x.drain, y ∈ tags)
    (hleft : ∀ y ∈ x.drain, y ∈ tags) : s.drainPort tags p = s.completeFence p x := by
  have hyes : x.drain.any (· ∈ tags) = true := by simpa using h
  have hnil : x.drain.filter (· ∉ tags) = [] := by simpa using hleft
  simp only [State.drainPort, hx, hyes, if_true, hnil]

/-- What retired tags do to a port's record and postings. -/
theorem State.drainPort_self (s : State) (tags : List GrantTag) (p : MPort) :
    (s.drainPort tags p).mgmt p = drained (s.mgmt p) tags ∧
      (s.drainPort tags p).cmd.posts = s.cmd.posts ++ fencePosts (s.mgmt p) p tags := by
  rw [drained, fencePosts]
  cases hx : (s.mgmt p).fence with
  | none =>
    rw [State.drainPort_of_none hx]
    exact ⟨rfl, (List.append_nil _).symm⟩
  | some x =>
    by_cases hapart : ∀ y ∈ x.drain, y ∉ tags
    · have hno : ¬ (x.drain ≠ [] ∧ (∀ y ∈ x.drain, y ∈ tags) ∧ x.notify = true) := by
        rintro ⟨hne, hall, -⟩
        obtain ⟨y, hy⟩ := List.exists_mem_of_ne_nil _ hne
        exact hapart y hy (hall y hy)
      rw [State.drainPort_of_apart hx hapart]
      dsimp only
      rw [if_pos hapart, if_neg hno]
      exact ⟨rfl, (List.append_nil _).symm⟩
    · have hmeet : ∃ y ∈ x.drain, y ∈ tags := by
        by_contra h
        exact hapart fun y hy hyt => h ⟨y, hy, hyt⟩
      have hne : x.drain ≠ [] := List.ne_nil_of_mem hmeet.choose_spec.1
      by_cases hall : ∀ y ∈ x.drain, y ∈ tags
      · rw [State.drainPort_of_emptied hx hmeet hall, State.completeFence_mgmt_self, State.completeFence_posts]
        dsimp only
        rw [if_neg hapart, if_pos hall]
        refine ⟨rfl, ?_⟩
        cases x.notify with
        | false => simp
        | true => simpa [hne] using hall
      · have hleft : ∃ y ∈ x.drain, y ∉ tags := by
          by_contra h
          exact hall fun y hy => by_contra fun hyt => h ⟨y, hy, hyt⟩
        rw [State.drainPort_of_left hx hmeet hleft, State.setMgmt_mgmt_self]
        dsimp only
        rw [if_neg hapart, if_neg hall, if_neg fun h => hall h.2.1, List.append_nil]
        exact ⟨rfl, rfl⟩

/-- Retired tags leave every drain set. -/
theorem drained_drainSets (s : State) (tags : List GrantTag) : Drained s (s.drainSets tags) tags := by
  set r := s.drainRunning tags
  obtain ⟨ha, hpa⟩ := r.drainPort_self tags .a
  obtain ⟨hb, hpb⟩ := (r.drainPort tags .a).drainPort_self tags .b
  have hc := changesOnly_drainPort (s := r) (tags := tags) (p := .a) (A := [.mgmt .a, .executorPosts]) (by simp) (by simp)
  have hd := changesOnly_drainPort (s := r.drainPort tags .a) (tags := tags) (p := .b) (A := [.mgmt .b, .executorPosts])
    (by simp) (by simp)
  have hma : (s.drainSets tags).mgmt .a = (r.drainPort tags .a).mgmt .a := hd (.mgmt .a) (by simp)
  have hmb : (r.drainPort tags .a).mgmt .b = s.mgmt .b := hc (.mgmt .b) (by simp)
  refine ⟨fun p => ?_, ?_, ?_⟩
  · cases p with
    | a => rw [hma, ha]; rfl
    | b => exact hb.trans (by rw [hmb])
  · refine hpb.trans ?_
    rw [hpa, hmb, List.append_assoc]
    rfl
  · exact (hd .running (by simp)).trans (hc .running (by simp))

theorem exec_retirementReport {tag : GrantTag} {later : List ExecutorMsg} (hlive : Live s)
    (h : (s.arb e).toExecutor = .retired tag :: later) :
    exec (.retirementReport e) s = .next ((s.popExecutor e later).drainSets [tag]) := by
  show execRetirementReport e s = _
  rw [execRetirementReport, s.live_of_high _ hlive]
  simp only [h]

/-- Settles O39, by what draining one tag does at each port. -/
theorem retirementReportDrainsFences : Obligations.RetirementReportDrainsFences := by
  unfold Obligations.RetirementReportDrainsFences
  intro s e tag later hlive h
  set u := s.popExecutor e later with hu
  obtain ⟨hmgmt, hposts, hrunning⟩ := drained_drainSets u [tag]
  have kept : ∀ p, u.mgmt p = s.mgmt p := fun p => rfl
  have hframe : changesOnly u (u.drainSets [tag]) [.mgmt .a, .mgmt .b, .executorPosts, .running] :=
    changesOnly_drainSets (by simp) (by simp) (by simp) (by simp)
  refine ⟨_, exec_retirementReport hlive h, ?_, ?_, fun p hp => ?_, fun p x hx htag => ⟨?_, ?_⟩, ?_, ?_⟩
  · exact (hframe (.arbiter e) (by simp)).trans (State.setArb_arb_self s e _)
  · rw [hrunning]
    simp [u, State.popExecutor]
  · rw [hmgmt, drained, kept]
    cases hx : (s.mgmt p).fence with
    | none => rfl
    | some x =>
      dsimp only
      rw [if_pos]
      rintro y hy hyt
      rw [List.mem_singleton.1 hyt] at hy
      exact hp x hx hy
  · rintro ⟨y, hy, hne⟩
    rw [hmgmt, drained, kept, hx]
    dsimp only
    rw [if_neg fun hno => hno tag htag (by simp), if_neg fun hall => hne (by simpa using hall y hy)]
    simp
  · intro hall
    rw [hmgmt, drained, kept, hx]
    dsimp only
    rw [if_neg fun hno => hno tag htag (by simp), if_pos fun y hy => by simpa using hall y hy]
  · exact hposts
  · exact (changesOnly_setArb (by simp)).trans (hframe.mono (by simp))

/-! ## The capture of a drain set (R158) -/

/-- The fence that a captured drain set waits in. -/
def fenceOf (j : Running) : Fence := { tag := j.tag, kind := j.kind, notify := j.notify, drain := j.drain }

section
variable {j : Running}

theorem State.endCapture_of_released (h : (s.mgmt j.port).promised = false) : s.endCapture j = s.withRunning none := by
  rw [State.endCapture]
  dsimp only
  rw [State.withRunning_mgmt, h, if_neg Bool.false_ne_true]

theorem State.endCapture_of_waiting (h : (s.mgmt j.port).promised = true) (hd : j.drain ≠ []) :
    s.endCapture j = (s.withRunning none).setMgmt j.port { s.mgmt j.port with fence := some (fenceOf j) } := by
  rw [State.endCapture]
  dsimp only
  rw [State.withRunning_mgmt, h, if_pos rfl, if_neg hd]
  rfl

theorem State.endCapture_of_empty (h : (s.mgmt j.port).promised = true) (hd : j.drain = []) :
    s.endCapture j = (s.withRunning none).completeFence j.port (fenceOf j) := by
  rw [State.endCapture]
  dsimp only
  rw [State.withRunning_mgmt, h, if_pos rfl, if_pos hd]
  rfl

end

/-- Settles O38, by the two halves of a fence read: the arbiter that answers and the executor that collects. -/
theorem fenceCapturesDrainSet : Obligations.FenceCapturesDrainSet := by
  unfold Obligations.FenceCapturesDrainSet
  refine fun s j e rest => ⟨fun h => ?_, fun tags later h hanswer => ?_⟩
  · have ht := exec_row_of_asks h
    refine ⟨_, ht, rfl, ?_, changesOnly_serve s _ _⟩
    rw [State.serve, State.withRunning_arb, State.setArb_arb_self, slotsWhere_all]
    rfl
  · have ht := exec_row_of_asks h
    have hserve : s.serve { j with todo := rest } (.fenceAnswer e) =
        if rest = [] then (s.popExecutor e later).endCapture { j with todo := rest, drain := j.drain ++ tags }
        else (s.popExecutor e later).withRunning (some { j with todo := rest, drain := j.drain ++ tags }) := by
      simp only [State.serve, hanswer]
    rw [hserve] at ht
    set u := s.popExecutor e later with hu
    have pop : changesOnly s u [.running, .arbiter e] := changesOnly_setArb (by simp)
    have arb : u.arb e = { s.arb e with toExecutor := later } := s.setArb_arb_self e _
    set k : Running := { j with todo := rest, drain := j.drain ++ tags } with hk
    by_cases hrest : rest = []
    · rw [if_pos hrest] at ht
      refine ⟨_, ht, ?_, fun hno => absurd hrest hno, fun _ => ⟨u.endCapture_running k, fun hp => ?_, fun hp hne => ?_,
        fun hp hnil => ?_⟩⟩
      · exact (changesOnly_endCapture (A := [.running, .mgmt k.port, .executorPosts]) (by simp) (by simp) (by simp)
          (.arbiter e) (by simp)).trans arb
      · rw [State.endCapture_of_released (s := u) (j := k) hp]
        exact pop.trans (changesOnly_withRunning (by simp))
      · rw [State.endCapture_of_waiting (s := u) (j := k) hp hne]
        exact ⟨State.setMgmt_mgmt_self _ _ _, ((pop.mono (by simp)).trans (changesOnly_withRunning (by simp))).trans
          (changesOnly_setMgmt (by simp [hk]))⟩
      · rw [State.endCapture_of_empty (s := u) (j := k) hp hnil]
        refine ⟨?_, State.completeFence_posts _ _ _, ((pop.mono (by simp)).trans (changesOnly_withRunning (by simp))).trans
          (changesOnly_completeFence (by simp [hk]) (by simp))⟩
        refine (State.completeFence_mgmt_self _ _ _).trans ?_
        have hpm : ((u.withRunning none).mgmt k.port).promised = true := hp
        rw [answered, if_pos (by exact hpm)]
        rfl
    · rw [if_neg hrest] at ht
      refine ⟨_, ht, arb, fun _ => ⟨rfl, pop.trans (changesOnly_withRunning (by simp))⟩, fun hno => absurd hno hrest⟩

end Sys2Proof.Machine
end

section
/-! PROOFS. Transactions at a management port: what a PUSH, a PEEK, an ignored transaction and a PULL do and
shift out: O26 and O27. -/

namespace Sys2Proof.Machine

open Sys2Proof.Safety

variable {s t u : State} {p q : MPort} {A : List Part}

/-! ## Bytes shifted out -/

/-- A body whose first byte stands in the selector's time, with zeros behind it. -/
theorem shiftedOut_eq (body : List Byte) (n m : Nat) (h : n ≤ m + 1) :
    shiftedOut body n = (0 :: body ++ List.replicate m (0 : Byte)).take n := by
  rw [shiftedOut, List.take_append, List.take_append, List.take_replicate, List.take_replicate, List.length_cons]
  congr 2
  omega

theorem shiftedOut_nil (n : Nat) : shiftedOut [] n = (([] : List Byte) ++ List.replicate n 0).take n := by
  rw [shiftedOut_eq [] n (n - 1) (by omega)]
  cases n <;> simp [List.replicate_succ]

/-! ## The port state word (R122) -/

theorem bitOf_le_one (b : Bool) : bitOf b ≤ 1 := by cases b <;> decide

theorem bitOf_eq_one (b : Bool) : bitOf b = 1 ↔ b = true := by cases b <;> simp [bitOf]

/-- The fields of the port state word, with both queues within their depth. -/
theorem peekWord_fields {cmds resps : Nat} (hc : cmds ≤ 16) (hr : resps ≤ 16) (x : CauseSet) {w : BitVec 16}
    (hw : w = BitVec.ofNat 16 ((16 - cmds) * 2048 + resps * 64 + bitOf x.linkDown * 32 + bitOf x.portDown * 16 +
      bitOf x.trip * 8 + bitOf x.fault * 4 + bitOf x.fenceDone * 2)) :
    w.toNat / 2048 = 16 - cmds ∧ w.toNat / 64 % 32 = resps ∧ w.getLsbD 5 = x.linkDown ∧ w.getLsbD 4 = x.portDown ∧
      w.getLsbD 3 = x.trip ∧ w.getLsbD 2 = x.fault ∧ w.getLsbD 1 = x.fenceDone ∧ w.getLsbD 0 = false := by
  have hl := bitOf_le_one x.linkDown
  have hp := bitOf_le_one x.portDown
  have ht := bitOf_le_one x.trip
  have hf := bitOf_le_one x.fault
  have hd := bitOf_le_one x.fenceDone
  have hn : w.toNat = (16 - cmds) * 2048 + resps * 64 + bitOf x.linkDown * 32 + bitOf x.portDown * 16 +
      bitOf x.trip * 8 + bitOf x.fault * 4 + bitOf x.fenceDone * 2 := by
    rw [hw, BitVec.toNat_ofNat, Nat.mod_eq_of_lt]
    omega
  have bit : ∀ (i : Nat) (b : Bool), (w.toNat / 2 ^ i % 2 = 1 ↔ bitOf b = 1) → w.getLsbD i = b := by
    intro i b h
    rw [Bool.eq_iff_iff, BitVec.getLsbD, Nat.testBit_eq_decide_div_mod_eq, decide_eq_true_eq, h, bitOf_eq_one]
  exact ⟨by omega, by omega, bit 5 _ (by omega), bit 4 _ (by omega), bit 3 _ (by omega), bit 2 _ (by omega),
    bit 1 _ (by omega), bit 0 false (by rw [show bitOf false = 0 from rfl]; omega)⟩

/-- The port state word goes out most significant byte first. -/
theorem peekOutput_eq (w : BitVec 16) : peekOutput w = [w.extractLsb' 8 8, w.extractLsb' 0 8] := by
  rw [peekOutput, bytes16]
  congr 1
  · rw [BitVec.extractLsb', Nat.shiftRight_eq_div_pow]
    rfl

/-! ## Whole transactions (R119, R120) -/

theorem recordOf_of_short {bytes : List Byte} (h : bytes.length < 16) : recordOf bytes = none := dif_neg (by omega)

theorem recordOf_of_full {bytes : List Byte} (h : 16 ≤ bytes.length) :
    ∃ r : CommandRecord, recordOf bytes = some r ∧ r.toList = bytes.take 16 := by
  refine ⟨_, dif_pos h, ?_⟩
  refine List.ext_getElem (by simp [h]) fun i hi _ => ?_
  simp

theorem exec_push (hlive : Live s) (p : MPort) (bytes : List Byte) :
    exec (.push p bytes) s = .next (if s.fitted p then s.transact p bytes else s) :=
  s.live_of_high (fun s => if s.fitted p then s.transact p bytes else s) hlive

theorem selects_eq {bytes : List Byte} {b : Byte} (h : bytes.head? = some b) : selects bytes = selectorOf b := by
  rw [selects, h, Option.bind_some]

theorem selects_none {bytes : List Byte} (h1 : bytes.head? ≠ some 1) (h2 : bytes.head? ≠ some 2)
    (h3 : bytes.head? ≠ some 3) : selects bytes = none := by
  cases h : bytes.head? with
  | none => rw [selects, h]; rfl
  | some b =>
    rw [h] at h1 h2 h3
    exact (selects_eq h).trans ((if_neg fun hb => h1 (congrArg some hb)).trans
      ((if_neg fun hb => h2 (congrArg some hb)).trans (if_neg fun hb => h3 (congrArg some hb))))

theorem pushed_of_short (m : MgmtPort) (p : MPort) {bytes : List Byte} (h : bytes.length < 17) :
    m.pushed p bytes = { m with pulling := none, miso := (([] :
      List Byte) ++ List.replicate bytes.length 0).take bytes.length } := by
  rw [MgmtPort.pushed, recordOf_of_short (by rw [List.length_tail]; omega), ← shiftedOut_nil]
  rfl

theorem pushed_of_full (m : MgmtPort) (p : MPort) {bytes : List Byte} (hn : 17 ≤ bytes.length)
    (h : 16 ≤ m.commands.length) : ∃ later : List Byte, later.length = bytes.length - 18 ∧
      m.pushed p bytes = { m with
        pulling := none, miso := (List.replicate 17 0 ++ [2] ++ later).take bytes.length
        drawn := m.drawn + (bytes.length - 18) } := by
  obtain ⟨r, hr, -⟩ := recordOf_of_full (bytes := bytes.tail) (by rw [List.length_tail]; omega)
  obtain ⟨later, hlen, hlater⟩ := m.answered_eq p statusFull bytes.length
  refine ⟨later, hlen, ?_⟩
  rw [MgmtPort.pushed, hr]
  dsimp only
  rw [MgmtPort.joined, if_neg (by simp only [Config.queueDepth]; omega)]
  exact hlater

theorem pushed_of_room (m : MgmtPort) (p : MPort) {bytes : List Byte} (hn : 17 ≤ bytes.length)
    (h : m.commands.length < 16) : ∃ later : List Byte, later.length = bytes.length - 18 ∧
      ∃ r : CommandRecord, r.toList = (bytes.drop 1).take 16 ∧
        m.pushed p bytes = { m with
          commands := m.commands ++ [r], pulling := none
          miso := (List.replicate 17 0 ++ [1] ++ later).take bytes.length, drawn := m.drawn + (bytes.length - 18) } := by
  obtain ⟨r, hr, hbytes⟩ := recordOf_of_full (bytes := bytes.tail) (by rw [List.length_tail]; omega)
  obtain ⟨later, hlen, hlater⟩ := MgmtPort.answered_eq { m with commands := m.commands ++ [r] } p statusTaken bytes.length
  refine ⟨later, hlen, r, by rw [hbytes, List.drop_one], ?_⟩
  rw [MgmtPort.pushed, hr]
  dsimp only
  rw [MgmtPort.joined, if_pos (by simp only [Config.queueDepth]; omega)]
  exact hlater

/-- Settles O26, by the first byte of the transaction. -/
theorem pushPeekOrIgnored : Obligations.PushPeekOrIgnored := by
  unfold Obligations.PushPeekOrIgnored
  intro s p bytes hlive m n x ends
  have row := exec_push hlive p bytes
  constructor
  · intro hsolo hp
    have hfitted : ¬ s.fitted p = true := by rw [s.fitted_iff]; exact fun h => h ⟨hsolo, hp⟩
    exact ⟨by rw [row, if_neg hfitted], by rw [State.peekWord, if_neg hfitted]⟩
  intro hfitted
  rw [← s.fitted_iff] at hfitted
  rw [if_pos hfitted] at row
  refine ⟨fun hsel => ?_, fun hsel => ?_, fun h1 h2 h3 => ?_, fun hsel => ?_⟩
  · have htransact : s.transact p bytes = s.setMgmt p (m.pushed p bytes) := by
      simp only [State.transact, show selects bytes = some .push from selects_eq hsel]
      rfl
    refine ⟨_, row, fun hn => ?_, fun hn => ?_, changesOnly_transact (by simp)⟩
    · show (s.transact p bytes).mgmt p = _
      rw [htransact, State.setMgmt_mgmt_self, pushed_of_short m p hn]
    · rw [htransact, State.setMgmt_mgmt_self]
      by_cases hroom : m.commands.length < 16
      · obtain ⟨later, hlen, r, hr, hm⟩ := pushed_of_room m p hn hroom
        exact ⟨later, hlen, fun hfull => by omega, fun _ => ⟨r, hr, hm⟩⟩
      · obtain ⟨later, hlen, hm⟩ := pushed_of_full m p hn (by omega)
        exact ⟨later, hlen, fun _ => hm, fun hr => absurd hr hroom⟩
  · obtain ⟨w, hw⟩ : ∃ w, s.peekWord p = some w := ⟨_, if_pos hfitted⟩
    have htransact : s.transact p bytes = s.setMgmt p (m.ends (shiftedOut (peekOutput w) n)) := by
      simp only [State.transact, show selects bytes = some .peek from selects_eq hsel, hw]
      rfl
    refine ⟨_, row, w, hw, fun hc hr => ?_, ?_, changesOnly_transact (by simp)⟩
    · refine peekWord_fields hc hr x ?_
      rw [State.peekWord, if_pos hfitted] at hw
      exact (Option.some.inj hw).symm
    · show (s.transact p bytes).mgmt p = _
      rw [htransact, State.setMgmt_mgmt_self, peekOutput_eq, shiftedOut_eq _ n n (by omega)]
      rfl
  · have htransact : s.transact p bytes = s.setMgmt p (m.ends (shiftedOut [] n)) := by
      simp only [State.transact, selects_none h1 h2 h3]
      rfl
    refine ⟨_, row, ?_, changesOnly_transact (by simp)⟩
    show (s.transact p bytes).mgmt p = _
    rw [htransact, State.setMgmt_mgmt_self, shiftedOut_nil]
    rfl
  · rw [row]
    simp only [State.transact, show selects bytes = some .pull from selects_eq hsel]

end Sys2Proof.Machine
end

section
/-! PROOFS. The layout of a response record, and the PULL that returns it: O27. -/

namespace Sys2Proof.Machine

open Sys2Proof.Safety

variable {s t u : State} {p q : MPort} {A : List Part} {l : List Byte}

/-! ## Fields of a record (R168) -/

theorem fieldAt_succ (b : Byte) (l : List Byte) (i n : Nat) : fieldAt (b :: l) (i + 1) n = fieldAt l i n := rfl

theorem fieldAt_add (bs : List Byte) (i k n : Nat) : fieldAt bs (i + k) n = fieldAt (bs.drop i) k n := by
  rw [fieldAt, fieldAt, List.drop_drop]

theorem byteOf_toNat (n : Nat) : (byteOf n).toNat = n % 256 := BitVec.toNat_ofNat n 8

theorem fieldAt_byte (b : Byte) (l : List Byte) : fieldAt (b :: l) 0 1 = b.toNat := by
  simp [fieldAt]

theorem fieldAt_bytes16 (n : Nat) (l : List Byte) : fieldAt (byteOf (n / 256) :: byteOf n :: l) 0 2 = n % 65536 := by
  show (0 * 256 + (byteOf (n / 256)).toNat) * 256 + (byteOf n).toNat = _
  rw [byteOf_toNat, byteOf_toNat]
  omega

theorem fieldAt_bytes24 (n : Nat) (l : List Byte) : 
    fieldAt (byteOf (n / 65536) :: byteOf (n / 256) :: byteOf n :: l) 0 3 = n % 16777216 := by
  show ((0 * 256 + (byteOf (n / 65536)).toNat) * 256 + (byteOf (n / 256)).toNat) * 256 + (byteOf n).toNat = _
  rw [byteOf_toNat, byteOf_toNat, byteOf_toNat]
  omega

theorem fieldAt_bytes32 (n : Nat) (l : List Byte) : 
    fieldAt (byteOf (n / 16777216) :: byteOf (n / 65536) :: byteOf (n / 256) :: byteOf n :: l) 0 4 = n % 4294967296 := by
  show (((0 * 256 + (byteOf (n / 16777216)).toNat) * 256 + (byteOf (n / 65536)).toNat) * 256 +
    (byteOf (n / 256)).toNat) * 256 + (byteOf n).toNat = _
  rw [byteOf_toNat, byteOf_toNat, byteOf_toNat, byteOf_toNat]
  omega

theorem fieldAt_of_lt {n : Nat} (h : n < 256) (l : List Byte) : fieldAt (byteOf n :: l) 0 1 = n := by
  rw [fieldAt_byte, byteOf_toNat, Nat.mod_eq_of_lt h]

theorem bit_le_one (b : Bool) : bit b ≤ 1 := by cases b <;> decide

/-! ## The payloads (R173) -/

theorem bitOf_eq (b : Bool) : bitOf b = bit b := rfl

theorem stateCode_le (x : FlowState) : stateCode x ≤ 2 := by cases x <;> decide

theorem saturationCode_le (x : Saturation) : saturationCode x ≤ 2 := by cases x <;> decide

theorem ofInt24_toNat (z : Int) : (((BitVec.ofInt 24 z).toNat % 16777216 : Nat) : Int) = z % 16777216 := by
  rw [BitVec.toNat_ofInt]
  omega

theorem ofInt16_toNat (z : Int) : (((BitVec.ofInt 16 z).toNat % 65536 : Nat) : Int) = z % 65536 := by
  rw [BitVec.toNat_ofInt]
  omega

theorem flowLaidOut (x : FlowSnapshot) (a b c d : Byte) : FlowLaidOut ([a, b, c, d] ++ flowPayload x) x := by
  have hu := bit_le_one x.config.tripEnable
  have ht := bit_le_one x.tripped
  have hf := bit_le_one x.ctl.frozen
  have hd := bit_le_one x.demand.flush
  have hport := x.config.port.isLt
  have hurgency := x.config.urgency.isLt
  have hgroup := x.config.group.isLt
  have hprofile := x.config.profile.isLt
  simp only [FlowLaidOut, flowPayload, bytes16, bytes24, List.cons_append, List.nil_append, fieldAt_succ, fieldAt_bytes16,
    fieldAt_bytes24, fieldAt_byte, byteOf_toNat, bitOf_eq, ofInt24_toNat, ofInt16_toNat, and_true]
  refine ⟨by omega, by omega, fun hstart => ?_⟩
  have hstate := stateCode_le x.ctl.state
  have hsat := saturationCode_le x.ctl.saturation
  show _ = stateCode x.ctl.state * 64 + saturationCode x.ctl.saturation * 16 + x.ctl.startCount
  omega

theorem portLaidOut (x : PortSnapshot) (a b c d : Byte) : PortLaidOut ([a, b, c, d] ++ portPayload x) x := by
  have he := bit_le_one x.condition.enable
  have hl := bit_le_one x.condition.linkUp
  have ht := bit_le_one x.condition.tripFlag
  simp only [PortLaidOut, portPayload, bytes16, List.cons_append, List.nil_append, fieldAt_succ, fieldAt_bytes16,
    fieldAt_byte, byteOf_toNat, bitOf_eq, List.drop_succ_cons, List.drop_zero, and_true, true_and]
  intro hlevel hthreshold
  omega

theorem slotLaidOut (x : GrantSlot) {bs rest : List Byte} {i : Nat} (h : bs.drop i = slotPayload x ++ rest) :
    SlotLaidOut bs i x := by
  have field : ∀ k n, fieldAt bs (i + k) n = fieldAt (slotPayload x ++ rest) k n := fun k n => by rw [fieldAt_add, h]
  have gap : (bs.drop (i + 1)).take 6 = ((slotPayload x ++ rest).drop 1).take 6 := by rw [← List.drop_drop, h]
  have hgen := x.generation.isLt
  rw [SlotLaidOut]
  cases hx : x.grant with
  | none =>
    have hp : slotPayload x = [byteOf x.generation.toNat, 0, 0, 0, 0, 0, 0] := by simp only [slotPayload, hx]
    refine ⟨(field 0 1).trans ?_, gap.trans (by rw [hp]; rfl)⟩
    rw [hp]
    exact fieldAt_of_lt (by omega) _
  | some g =>
    have hp : slotPayload x = [byteOf (128 + x.generation.toNat), byteOf g.flow.val, byteOf g.age,
        byteOf (g.issued / 256), byteOf g.issued, byteOf (g.remaining / 256), byteOf g.remaining] := by
      simp only [slotPayload, hx]
      rfl
    have hflow := g.flow.isLt
    refine ⟨(field 0 1).trans ?_, ?_⟩
    · rw [hp]
      exact fieldAt_of_lt (by omega) _
    · simp only [field, hp, List.cons_append, List.nil_append, fieldAt_succ, fieldAt_byte, fieldAt_bytes16, byteOf_toNat,
        and_true]
      omega

theorem faultCode_toNat (k : FaultKind) : (faultCode k).toNat = codeOfFault k := by cases k <;> rfl

/-- An index, or 255 where there is none, in one byte. -/
theorem index_mod {n : Nat} (hn : n ≤ 256) (o : Option (Fin n)) :
    (o.map Fin.val).getD 255 % 256 = (o.map Fin.val).getD 255 := by
  cases o with
  | none => rfl
  | some i => exact Nat.mod_eq_of_lt (Nat.lt_of_lt_of_le i.isLt hn)

theorem faultLaidOut (x : Option FaultRecord) (overflow : Bool) (a b c d : Byte) :
    FaultLaidOut ([a, b, c, d] ++ faultPayload x overflow) x overflow := by
  have ho := bit_le_one overflow
  cases x with
  | none =>
    simp only [FaultLaidOut, faultPayload, List.cons_append, List.nil_append, fieldAt_succ,
      fieldAt_byte, byteOf_toNat, bitOf_eq, List.drop_succ_cons, List.drop_zero, and_true]
    exact ⟨⟨rfl, rfl, rfl, rfl, rfl, rfl, rfl⟩, by omega⟩
  | some y =>
    have hfirst := y.first.isLt
    have hlast := y.last.isLt
    simp only [FaultLaidOut, faultPayload, bytes32, List.cons_append, List.nil_append, fieldAt_succ, fieldAt_bytes32,
      fieldAt_byte, byteOf_toNat, bitOf_eq, List.drop_succ_cons, List.drop_zero, and_true, index_mod (by decide : 96 ≤ 256),
      index_mod (by decide : 8 ≤ 256)]
    refine ⟨⟨rfl, faultCode_toNat _, ?_, ?_, by omega, by omega⟩, by omega⟩
    · cases y.key.flow <;> rfl
    · cases y.key.port <;> rfl

/-! ## The whole record -/

theorem length_slotPayload (x : GrantSlot) : (slotPayload x).length = 7 := by
  rw [slotPayload]
  cases x.grant <;> rfl

/-- The summary of a slot starts seven bytes behind that of the slot before. -/
theorem drop_slotPayload (x : GrantSlot) (l : List Byte) (n : Nat) : (slotPayload x ++ l).drop (n + 7) = l.drop n := by
  rw [Nat.add_comm, ← List.drop_drop, ← length_slotPayload x, List.drop_left]

theorem payloadLaidOut (x : Payload) (a b c d : Byte) : PayloadLaidOut ([a, b, c, d] ++ payloadBytes x) x := by
  cases x with
  | absent => exact ⟨rfl, rfl⟩
  | flow x => exact ⟨rfl, flowLaidOut x a b c d⟩
  | port x => exact ⟨rfl, portLaidOut x a b c d⟩
  | fault x overflow => exact ⟨by cases x <;> rfl, faultLaidOut x overflow a b c d⟩
  | slots xs =>
    intro hlen
    obtain ⟨x0, x1, x2, x3, rfl⟩ : ∃ x0 x1 x2 x3, xs = [x0, x1, x2, x3] := by
      match xs, hlen with
      | [x0, x1, x2, x3], _ => exact ⟨x0, x1, x2, x3, rfl⟩
    have hbytes : payloadBytes (.slots [x0, x1, x2, x3]) =
        slotPayload x0 ++ (slotPayload x1 ++ (slotPayload x2 ++ (slotPayload x3 ++ []))) := rfl
    refine ⟨?_, fun i x hx => ?_⟩
    · rw [hbytes]
      simp only [List.length_append, length_slotPayload, List.length_cons, List.length_nil]
    · have hdrop : ∀ n, ([a, b, c, d] ++ payloadBytes (.slots [x0, x1, x2, x3])).drop (4 + n) =
          (slotPayload x0 ++ (slotPayload x1 ++ (slotPayload x2 ++ (slotPayload x3 ++ [])))).drop n := fun n => by
        rw [← List.drop_drop, hbytes]
        rfl
      fin_cases i <;> cases hx
      · exact slotLaidOut x0 (hdrop 0)
      · exact slotLaidOut x1 ((hdrop 7).trans (drop_slotPayload x0 _ 0))
      · exact slotLaidOut x2 ((hdrop 14).trans ((drop_slotPayload x0 _ 7).trans (drop_slotPayload x1 _ 0)))
      · exact slotLaidOut x3 ((hdrop 21).trans ((drop_slotPayload x0 _ 14).trans ((drop_slotPayload x1 _ 7).trans
          (drop_slotPayload x2 _ 0))))

theorem laidOut_responseBytes (r : Response) : LaidOut (responseBytes r) r := by
  refine ⟨fieldAt_byte _ _, fieldAt_byte _ _, ?_, ?_, payloadLaidOut r.payload _ _ _ _⟩
  · refine (fieldAt_byte _ _).trans ?_
    cases r.status <;> rfl
  · refine (fieldAt_byte _ _).trans ?_
    cases r.scope with
    | none => rfl
    | some k => cases k <;> rfl

/-! ## PULL (R121) -/

theorem afterPull_eq (m : MgmtPort) (x : PullTransfer) (clocked : Nat) :
    m.afterPull x clocked =
      if 32 ≤ clocked ∧ x.standing = true ∧ x.response ≠ none then m.responses.tail else m.responses :=
  if_congr (by rw [Option.isSome_iff_ne_none]) rfl rfl

theorem pulled_eq (m : MgmtPort) (clocked : Nat) :
    m.pulled clocked = { m with
      responses := m.afterPull (m.pulling.getD m.selectPull) clocked, pulling := none
      miso := (0 :: (m.pulling.getD m.selectPull).output ++ List.replicate clocked (0 : Byte)).take (clocked + 1) } := by
  rw [← shiftedOut_eq _ _ _ (Nat.le_refl _)]
  rfl

/-- Settles O27, by the record that the selector byte fixes, at its own step or at the end. -/
theorem pullReturnsTheHead : Obligations.PullReturnsTheHead := by
  unfold Obligations.PullReturnsTheHead
  intro s p clocked hlive x
  have select : exec (.pullSelectorByte p) s = .next
      (if s.fitted p then s.setMgmt p { s.mgmt p with pulling := some (s.mgmt p).selectPull } else s) :=
    s.live_of_high (fun s => if s.fitted p then s.setMgmt p { s.mgmt p with pulling := some (s.mgmt p).selectPull } else s) hlive
  have pull : exec (.pull p clocked) s = .next (if s.fitted p then s.setMgmt p ((s.mgmt p).pulled clocked) else s) :=
    s.live_of_high (fun s => if s.fitted p then s.setMgmt p ((s.mgmt p).pulled clocked) else s) hlive
  constructor
  · intro hsolo hp
    have hfitted : ¬ s.fitted p = true := by rw [s.fitted_iff]; exact fun h => h ⟨hsolo, hp⟩
    rw [select, pull, if_neg hfitted, if_neg hfitted]
    exact ⟨rfl, rfl⟩
  intro hfitted
  rw [← s.fitted_iff] at hfitted
  rw [if_pos hfitted] at select pull
  refine ⟨⟨_, select, State.setMgmt_mgmt_self _ _ _, changesOnly_setMgmt (by simp)⟩,
    _, pull, x.output, fun r hr => ?_, fun hnone => ?_, ?_, changesOnly_setMgmt (by simp)⟩
  · rw [PullTransfer.output, hr]
    exact laidOut_responseBytes r
  · rw [PullTransfer.output, hnone]
    rfl
  · rw [State.setMgmt_mgmt_self, pulled_eq, afterPull_eq]
    rfl

end Sys2Proof.Machine
end

section
/-! PROOFS. What an arbiter takes from the Rate Engine, the Link Interface and its Port Monitor, and what a
monitor takes: O13, O19,
O20 and O22. -/

namespace Sys2Proof.Machine

open Sys2Proof.Safety

variable {s t u : State} {e : TargetPort} {f g : Flow} {A : List Part}

/-! ## Refill sets (R41) -/

theorem State.refillLost_iff (s : State) (e : TargetPort) (f : Flow) :
    s.refillLost e f = false ↔ Holds s e f ∧ ¬ Off s f ∧ ¬ TrippedAt s e f := by
  simp [State.refillLost, State.holds, State.trippedAt, ← s.isOff_iff f, and_assoc]

theorem State.refill_arb (s : State) (e k : TargetPort) (x : RefillSet) : (s.refill e x).arb k = s.arb k := by
  rw [State.refill, State.withHeld_arb]

theorem exec_refillSet {x : RefillSet} {later : List RefillSet} (hlive : Live s) (hx : (s.arb e).refills = x :: later) :
    exec (.refillSet e) s = .next
      (if (s.mon e).enable then (s.setArb e { s.arb e with refills := later }).refill e x
      else s.setArb e { s.arb e with refills := later }) := by
  show execRefillSet e s = _
  rw [execRefillSet, s.live_of_high _ hlive]
  simp only [hx]
  rfl

theorem changesOnly_refill {x : RefillSet} (h : ∀ f, .held f ∈ A) : changesOnly s (s.refill e x) A :=
  changesOnly_withHeld fun f hf => absurd (h f) hf

/-- Settles O13, by the port enabled or not, and then flow by flow. -/
theorem refillSetApplied : Obligations.RefillSetApplied := by
  unfold Obligations.RefillSetApplied
  intro s e x later hlive hx
  set u := s.setArb e { s.arb e with refills := later } with hu
  have arb : u.arb e = { s.arb e with refills := later } := s.setArb_arb_self e _
  have taken : changesOnly s u [.arbiter e] := changesOnly_setArb (by simp)
  have row := exec_refillSet hlive hx
  cases hen : (s.mon e).enable with
  | false =>
    rw [hen] at row
    exact ⟨u, row, arb, fun _ => taken, fun h => absurd h Bool.false_ne_true, taken.mono (by simp)⟩
  | true =>
    rw [hen] at row
    refine ⟨_, row, (u.refill_arb e e x).trans arb, fun h => absurd h.symm Bool.false_ne_true, fun _ f => ?_,
      (taken.mono (by simp)).trans (changesOnly_refill fun f => by simp)⟩
    show (u.refill e x).flow f = _
    have hfor : refillFor x f = (x.find? fun y => y.1 = f).map Prod.snd := rfl
    rw [State.refill_flow, hfor]
    cases x.find? fun y => y.1 = f with
    | none => rfl
    | some y =>
      dsimp only [Option.map_some]
      have lost : u.refillLost e f = false ↔ Holds s e f ∧ ¬ Off s f ∧ ¬ TrippedAt s e f := u.refillLost_iff e f
      by_cases hlost : u.refillLost e f = false
      · rw [hlost, if_neg Bool.false_ne_true, if_pos (lost.1 hlost)]
        rfl
      · rw [if_pos (by simpa using hlost), if_neg fun h => hlost (lost.2 h)]
        rfl

/-! ## Backlog reports (R94) -/

theorem exec_backlogApply {cells : Nat} {flush : Bool} {rest : List ArbiterMsg} (hlive : Live s)
    (h : (s.arb e).inbox = .backlog f cells flush :: rest) :
    exec (.backlogApply e) s = .next ((s.popArbiter e rest).applyBacklog e f cells flush) := by
  show execBacklogApply e s = _
  rw [execBacklogApply, s.live_of_high _ hlive]
  simp only [h]

/-- Settles O19, by the three outcomes in their order: OFF, no longer held, applied. -/
theorem backlogReportApplied : Obligations.BacklogReportApplied := by
  unfold Obligations.BacklogReportApplied
  intro s e f cells flush rest hlive h
  set u := s.popArbiter e rest with hu
  have arb : u.arb e = { s.arb e with inbox := rest } := s.popArbiter_arb_self e rest
  have pop : changesOnly s u [.arbiter e] := changesOnly_setArb (by simp)
  have faulty : ∀ k, (u.report (.arbiter e) { kind := k, flow := some f, port := some e }).arb e =
        { s.arb e with inbox := rest, reports := (s.arb e).reports ++ [{ kind := k, flow := some f, port := some e }] } ∧
      changesOnly s (u.report (.arbiter e) { kind := k, flow := some f, port := some e }) [.arbiter e] := fun k =>
    ⟨by rw [State.report_arbiter, State.setArb_arb_self, arb], pop.trans (changesOnly_setReports (by simp [sourcePart]))⟩
  have row := exec_backlogApply hlive h
  by_cases hoff : Off s f
  · rw [State.applyBacklog, if_pos ((u.isOff_iff f).2 hoff)] at row
    exact ⟨_, row, fun _ => faulty _, fun h => absurd hoff h, fun h => absurd hoff h⟩
  · rw [State.applyBacklog, if_neg fun h => hoff ((u.isOff_iff f).1 h)] at row
    by_cases hholds : Holds s e f
    · rw [if_pos (by exact beq_iff_eq.2 hholds)] at row
      refine ⟨_, row, fun h => absurd h hoff, fun _ h => absurd hholds h, fun _ _ => ⟨arb, ?_, ?_⟩⟩
      · rw [State.setDemand_flow, if_pos rfl]
        rfl
      · exact (pop.mono (by simp)).trans (changesOnly_setDemand (by simp))
    · rw [if_neg (by exact fun h => hholds (beq_iff_eq.1 h))] at row
      exact ⟨_, row, fun h => absurd h hoff, fun _ _ => faulty _, fun _ h => absurd h hholds⟩

/-! ## Completions (R98 to R103) -/

theorem exec_doneMatch_of_late {tag : GrantTag} {k : Nat} {endMark : Bool} {rest : List ArbiterMsg}
    (hc : Completes s e tag k endMark rest) (hm : ∀ g, ¬ Matches s e tag g) :
    exec (.doneMatch e) s = .next
      ((s.popArbiter e rest).report (.arbiter e) { kind := .lateDone, flow := none, port := some e }) := by
  obtain ⟨hhigh, hinbox⟩ := hc
  have hmatch : ((s.popArbiter e rest).arb e).matching tag = none := by
    rw [Option.eq_none_iff_forall_ne_some]
    intro g hg
    rw [State.popArbiter_arb_self, Arbiter.matching_eq_some] at hg
    exact hm g ⟨hg.2, hg.1⟩
  rw [exec_doneMatch, execDoneMatch, State.live_of_high _ _ hhigh]
  simp only [hinbox, hmatch]

/-- A completion's grant retires, with its cells credited. -/
def State.creditedRetired (s : State) (e : TargetPort) (rest : List ArbiterMsg) (n : Slot) (g : Grant) (k : Nat) : State :=
  ((s.popArbiter e rest).credit g.flow k).retire e [(n, g)]

theorem State.creditedRetired_arb (s : State) (e : TargetPort) (rest : List ArbiterMsg) (n : Slot) (g : Grant) (k : Nat) :
    (s.creditedRetired e rest n g k).arb e = retiredAt s e n rest := by
  rw [State.creditedRetired, State.retire_singleton_arb, State.credit_arb, State.popArbiter_arb_self]
  rfl

theorem State.creditedRetired_flow (s : State) (e : TargetPort) (rest : List ArbiterMsg) (n : Slot) (g : Grant) (k : Nat) :
    (s.creditedRetired e rest n g k).flow g.flow =
      { s.flow g.flow with
        demand :=
          { (s.flow g.flow).demand with
            outstanding := (s.flow g.flow).demand.outstanding - g.remaining
            grantCount := (s.flow g.flow).demand.grantCount - 1
            delivered := min ((s.flow g.flow).demand.delivered + k) 65535 } } := by
  rw [State.creditedRetired, State.retire_flow, Demand.less_singleton_self, State.credit_flow, if_pos rfl,
    State.popArbiter_flow]
  rfl

theorem changesOnly_creditedRetired (s : State) (e : TargetPort) (rest : List ArbiterMsg) (n : Slot) (g : Grant) (k : Nat) :
    changesOnly s (s.creditedRetired e rest n g k) [.arbiter e, .held g.flow] := by
  have other_arbiter : ∀ e' ≠ e, (s.creditedRetired e rest n g k).arb e' = s.arb e' := fun e' h => by
    rw [State.creditedRetired, State.retire_arb_ne _ _ h, State.credit_arb, State.popArbiter_arb_ne _ _ h]
  have other_flow : ∀ f' ≠ g.flow, (s.creditedRetired e rest n g k).flow f' = s.flow f' := fun f' h => by
    rw [State.creditedRetired, State.retire_flow, Demand.less_singleton_ne _ _ h, State.credit_flow, if_neg h,
      State.popArbiter_flow]
  exact changesOnly_arbiter_held s other_arbiter other_flow

section
variable {n : Slot} {x : Grant} {k : Nat} {endMark : Bool}

theorem State.complete_progress (hk : k < x.remaining) (hend : endMark = false) :
    s.complete e n x k endMark = (s.credit x.flow k).progress e n x k := by
  subst hend
  rw [State.complete]
  rw [if_neg (by omega), if_neg (by omega), if_neg Bool.false_ne_true]

theorem State.complete_ended (hk : k < x.remaining) (hend : endMark = true) :
    s.complete e n x k endMark = ((s.credit x.flow k).retire e [(n, x)]).refund x.flow (x.remaining - k) := by
  subst hend
  rw [State.complete]
  rw [if_neg (by omega), if_neg (by omega), if_pos rfl]

theorem State.complete_overrun (hk : x.remaining < k) :
    s.complete e n x k endMark = ((s.credit x.flow k).retire e [(n, x)]).report (.arbiter e)
      { kind := .overrun, flow := some x.flow, port := some e } := by
  rw [State.complete]
  rw [if_pos hk]

end

/-- Settles O20, by the four cases of a completion. -/
theorem completionsByCase : Obligations.CompletionsByCase := by
  unfold Obligations.CompletionsByCase
  intro s e tag k endMark rest hc
  set u := s.popArbiter e rest with hu
  have arb : u.arb e = { s.arb e with inbox := rest } := s.popArbiter_arb_self e rest
  have pop : changesOnly s u [.arbiter e] := changesOnly_setArb (by simp)
  refine ⟨fun hlate => ⟨_, exec_doneMatch_of_late hc hlate, ?_, pop.trans (changesOnly_setReports (by simp [sourcePart]))⟩,
    fun g hm => ⟨fun hk hend => ?_, fun hk hend => ?_, fun hk => ?_⟩⟩
  · rw [State.report_arbiter, State.setArb_arb_self, ← hu, arb]
  · have row := exec_doneMatch_of_matches hc hm
    rw [State.complete_progress hk hend] at row
    refine ⟨_, row, ?_, ?_, ?_⟩
    · rw [State.progress, State.setDemand_arb, State.setArb_arb_self, State.credit_arb, ← hu, arb, Arbiter.progress, ← hm.2]
    · rw [State.progress, State.setDemand_flow, if_pos rfl, State.setArb_flow, State.credit_flow, if_pos rfl]
      rfl
    · exact ((pop.mono (by simp)).trans (changesOnly_setDemand (by simp))).trans
        ((changesOnly_setArb (by simp)).trans (changesOnly_setDemand (by simp)))
  · have row := exec_doneMatch_of_matches hc hm
    rw [State.complete_ended hk hend] at row
    set v := s.creditedRetired e rest tag.slot g k with hv
    have row : exec (.doneMatch e) s = .next (v.refund g.flow (g.remaining - k)) := row
    have off : v.isOff g.flow = true ↔ Off s g.flow := v.isOff_iff g.flow
    have flow := s.creditedRetired_flow e rest tag.slot g k
    rw [← hv] at flow
    by_cases hoff : Off s g.flow
    · rw [State.refund, if_pos (off.2 hoff)] at row
      refine ⟨_, row, s.creditedRetired_arb e rest _ g k, ?_, changesOnly_creditedRetired s e rest _ g k⟩
      rw [flow, if_pos hoff]
    · rw [State.refund, if_neg fun h => hoff (off.1 h)] at row
      refine ⟨_, row, (State.setDemand_arb ..).trans (s.creditedRetired_arb e rest _ g k), ?_,
        (changesOnly_creditedRetired s e rest _ g k).trans (changesOnly_setDemand (by simp))⟩
      rw [State.setDemand_flow, if_pos rfl, flow, if_neg hoff]
      rfl
  · have row := exec_doneMatch_of_matches hc hm
    rw [State.complete_overrun hk] at row
    set v := s.creditedRetired e rest tag.slot g k with hv
    have row : exec (.doneMatch e) s = .next (v.report (.arbiter e) { kind := .overrun, flow := some g.flow, port := some e }) :=
      row
    refine ⟨_, row, ?_, ?_, (changesOnly_creditedRetired s e rest _ g k).trans (changesOnly_setReports (by simp [sourcePart]))⟩
    · rw [State.report_arbiter, State.setArb_arb_self, hv, State.creditedRetired_arb]
      rfl
    · rw [State.report_flow, hv, State.creditedRetired_flow]

/-! ## Shutdown (R84, R108) -/

theorem exec_tstat {up : Bool} {level : Nat} {rest : List MonitorMsg} (hlive : Live s)
    (h : (s.mon e).inbox = .status up level :: rest) :
    exec (.tstat e) s = .next ((s.popMonitor e rest).takeStatus e up level) := by
  show execTstat e s = _
  rw [execTstat, s.live_of_high _ hlive]
  simp only [h]

theorem exec_linkLossRequest {rest : List MonitorMsg} (hlive : Live s) (h : (s.mon e).inbox = .linkLoss :: rest) :
    exec (.linkLossRequest e) s = .next ((s.popMonitor e rest).takeLoss e) := by
  show execLinkLossRequest e s = _
  rw [execLinkLossRequest, s.live_of_high _ hlive]
  simp only [h]

/-- Settles O22, by the link state held and the one reported. -/
theorem monitorTakesStatus : Obligations.MonitorTakesStatus := by
  unfold Obligations.MonitorTakesStatus
  intro s e rest hlive m down
  set u := s.popMonitor e rest with hu
  have mon : u.mon e = { m with inbox := rest } := s.setMon_mon_self e _
  have pop : ∀ {B : List Part}, .monitor e ∈ B → changesOnly s u B := fun hB => changesOnly_setMon hB
  have shut : ∀ c, down (u.shutdown e c) c := fun c =>
    ⟨by rw [State.shutdown_mon_self, mon], by rw [State.shutdown_arb_self]; rfl,
      (pop (by simp)).trans (changesOnly_shutdown (by simp) (by simp))⟩
  refine ⟨fun level h => ?_, fun level h => ?_, fun h => ?_⟩
  · have row := exec_tstat hlive h
    rw [State.takeStatus, if_neg Bool.false_ne_true, ← hu, mon] at row
    by_cases hup : m.linkUp = true
    · rw [if_pos (by exact hup)] at row
      exact ⟨_, row, fun _ => shut true, fun h => absurd (hup.symm.trans h).symm Bool.false_ne_true⟩
    · rw [if_neg (by exact hup)] at row
      exact ⟨_, row, fun h => absurd h hup, fun _ => ⟨mon, pop (by simp)⟩⟩
  · have row := exec_tstat hlive h
    rw [State.takeStatus, if_pos rfl, ← hu, State.statusUp, mon] at row
    dsimp only at row
    by_cases htrip : m.threshold ≤ level ∧ m.tripFlag = false
    · rw [if_pos htrip] at row
      refine ⟨_, row, fun _ _ => ?_, fun h => ?_,
        ((pop (by simp)).trans (changesOnly_setMon (by simp))).trans (changesOnly_setPosts (by simp [sourcePart]))⟩
      · rw [State.post_monitor, State.setMon_mon_self, State.setMon_mon_self]
      · obtain ⟨hle, hclear⟩ := htrip
        rw [hclear] at h
        rcases h with h | h
        · omega
        · exact absurd h Bool.false_ne_true
    · rw [if_neg htrip] at row
      exact ⟨_, row, fun hle hclear => absurd ⟨hle, hclear⟩ htrip, fun _ => State.setMon_mon_self _ _ _,
        (pop (by simp)).trans (changesOnly_setMon (by simp))⟩
  · have row := exec_linkLossRequest hlive h
    rw [State.takeLoss, ← hu, mon] at row
    by_cases hup : m.linkUp = true
    · rw [if_pos (by exact hup)] at row
      exact ⟨_, row, fun _ => shut false, fun h => absurd (hup.symm.trans h).symm Bool.false_ne_true⟩
    · rw [if_neg (by exact hup)] at row
      exact ⟨_, row, fun h => absurd h hup, fun _ => ⟨mon, pop (by simp)⟩⟩

end Sys2Proof.Machine
end

section
/-! PROOFS. Grants that end together, at a shutdown and at an epoch expiry: O8 and O23. -/

namespace Sys2Proof.Machine

open Sys2Proof.Safety

variable {s t u : State} {e : TargetPort} {f g : Flow} {n : Slot} {A : List Part}

/-- What a row has done stays within its reach. -/
theorem changesOnly_of_exec {c : Instr} (h : exec c s = .next t) (hc : c ≠ .powerOnReset) : changesOnly s t (reach c) :=
  moves_changesOnly (exec_moves h) hc

/-! ## Records handed on -/

theorem handedOn_eq (s : State) (e : TargetPort) (rs : List OutRecord) :
    Table.get (s.hand e rs).link.waiting e = handedOn s e rs := by
  simp only [State.hand_waiting, and_true, handedOn]

/-! ## A shutdown (R84) -/

theorem exec_shutdownRequest {cancels : Bool} {later : List Bool} (hlive : Live s)
    (h : (s.arb e).shutdowns = cancels :: later) :
    exec (.shutdownRequest e) s = .next ((s.setArb e { s.arb e with shutdowns := later }).cancelAll e cancels) := by
  show execShutdownRequest e s = _
  rw [execShutdownRequest, s.live_of_high _ hlive]
  simp only [h]

/-- Every slot is free after a shutdown. -/
theorem State.cancelAll_slots (s : State) (e : TargetPort) (cancels : Bool) (n : Slot) :
    Table.get ((s.cancelAll e cancels).arb e).slots n =
      { generation := (Table.get (s.arb e).slots n).generation, grant := none } := by
  rw [State.cancelAll, State.clearBacklogs, State.withHeld_arb, State.hand_arb, State.retire_arb_self]
  simp only [Table.get_tab]
  split
  · rfl
  · next hfree =>
    have hnone : (Table.get (s.arb e).slots n).grant = none := by
      rw [Option.eq_none_iff_forall_ne_some]
      intro g hg
      exact hfree (List.any_eq_true.2 ⟨(n, g), ((s.arb e).mem_busy n g).2 hg, by simp⟩)
    rw [← hnone]

theorem State.cancelAll_arb (s : State) (e : TargetPort) (cancels : Bool) :
    (s.cancelAll e cancels).arb e =
      { s.arb e with
        slots := ((s.cancelAll e cancels).arb e).slots
        toExecutor := (s.arb e).toExecutor ++ (s.arb e).busy.map fun x => ExecutorMsg.retired ((s.arb e).tagAt e x.1) } := by
  rw [State.cancelAll, State.clearBacklogs, State.withHeld_arb, State.hand_arb, State.retire_arb_self]

theorem State.cancelAll_waiting (s : State) (e : TargetPort) (cancels : Bool) :
    Table.get (s.cancelAll e cancels).link.waiting e =
      handedOn s e (if cancels then (s.arb e).busy.map (s.cancelOf e) else []) := by
  rw [State.cancelAll, State.clearBacklogs, State.withHeld_link, handedOn_eq]
  rfl

/-- Settles O23, by the freed slots, the reports in slot order and the cleared flows. -/
theorem shutdownCancelsGrants : Obligations.ShutdownCancelsGrants := by
  unfold Obligations.ShutdownCancelsGrants
  intro s e cancels later hlive h
  set u := s.setArb e { s.arb e with shutdowns := later } with hu
  have arb : u.arb e = { s.arb e with shutdowns := later } := s.setArb_arb_self e _
  have row := exec_shutdownRequest hlive h
  refine ⟨_, row, fun n => ?_, ?_, ?_, fun f hf => ?_, fun f hf => ?_, changesOnly_of_exec row nofun⟩
  · rw [State.cancelAll_slots, ← hu, arb]
  · rw [slotsWhere_all]
    refine (u.cancelAll_arb e cancels).trans ?_
    rw [arb]
    rfl
  · rw [slotsWhere_all]
    refine (u.cancelAll_waiting e cancels).trans ?_
    have cancel : u.cancelOf e = fun x => .cancel (tagAt s e x.1) x.2.flow x.2.remaining := by
      funext x
      rw [State.cancelOf, arb]
      rfl
    rw [cancel, arb]
    rfl
  · refine (u.cancelAll_flow e cancels f).trans ?_
    rw [if_pos (by exact hf)]
    rfl
  · refine (u.cancelAll_flow e cancels f).trans ?_
    rw [if_neg (by exact hf), arb, slotsWhere_all]
    rfl

/-! ## An epoch expiry (R27 to R30) -/

/-- A grant in its slot, an epoch older. -/
def older (x : Slot × Grant) : Slot × Grant := (x.1, { x.2 with age := x.2.age + 1 })

theorem Arbiter.busy_aged (a : Arbiter) : a.aged.busy = a.busy.map older := by
  rw [Arbiter.busy, Arbiter.busy, List.map_filterMap]
  refine List.filterMap_congr fun n _ => ?_
  rw [Arbiter.aged, Table.get_tab]
  cases (Table.get a.slots n).grant <;> rfl

/-- The grants that an expiry ends, as they are when their age has been raised. -/
theorem expired_aged (s : State) (e : TargetPort) : (s.arb e).aged.expired = (slotsWhere s e (ages s e)).map older := by
  rw [Arbiter.expired, Arbiter.busy_aged, slotsWhere_eq, List.filter_map]
  rfl

theorem mem_slotsWhere (s : State) (e : TargetPort) (test : Grant → Bool) (n : Slot) (g : Grant) :
    (n, g) ∈ slotsWhere s e test ↔ grantAt s e n = some g ∧ test g = true := by
  rw [slotsWhere_eq, List.mem_filter, Arbiter.mem_busy]
  rfl

theorem State.drainSets_arb (s : State) (tags : List GrantTag) (k : TargetPort) : (s.drainSets tags).arb k = s.arb k := by
  obtain ⟨m, x, hd⟩ := s.drainSets_eq tags
  rw [hd]
  rfl

theorem tagAt_aged (s : State) (e : TargetPort) (n : Slot) : (s.arb e).aged.tagAt e n = tagAt s e n := by
  rw [Arbiter.tagAt, Arbiter.aged, Table.get_tab]
  rfl

theorem State.setReports_arbiter_arb (s : State) (e : TargetPort) (x : List FaultReport) :
    (s.setReports (.arbiter e) x).arb e = { s.arb e with reports := x } := s.setArb_arb_self e _

/-- An arbiter whose grants have aged, those at their lifetime retired. -/
theorem State.age_arb (s : State) (e : TargetPort) :
    (s.age e).arb e =
      { s.arb e with
        slots := Table.tab fun n =>
          if ((slotsWhere s e (ages s e)).map older).any fun x => x.1 == n then
            { Table.get (s.arb e).aged.slots n with grant := none }
          else Table.get (s.arb e).aged.slots n
        toExecutor := (s.arb e).toExecutor ++
          (slotsWhere s e (ages s e)).map fun x => ExecutorMsg.retired (tagAt s e x.1)
        reports := (s.arb e).reports ++ (slotsWhere s e (ages s e)).map fun x =>
          { kind := .grantExpired, flow := some x.2.flow, port := some e } } := by
  unfold State.age
  dsimp only
  rw [State.drainSets_arb, State.setReports_arbiter_arb, State.reportsOf, State.hand_arb, State.retire_arb_self,
    State.setArb_arb_self, expired_aged, List.map_map, List.map_map]
  simp only [Function.comp_def, older, expiredFault, tagAt_aged]
  rfl

theorem any_older_iff (s : State) (e : TargetPort) (n : Slot) :
    (((slotsWhere s e (ages s e)).map older).any fun x => x.1 == n) = true ↔
      ∃ g, grantAt s e n = some g ∧ ages s e g = true := by
  rw [List.any_map, List.any_eq_true]
  constructor
  · rintro ⟨⟨m, g⟩, hg, hm⟩
    obtain rfl : m = n := by simpa [older] using hm
    exact ⟨g, (mem_slotsWhere s e _ m g).1 hg⟩
  · rintro ⟨g, hg⟩
    exact ⟨(n, g), (mem_slotsWhere s e _ n g).2 hg, by simp [older]⟩

/-- A slot after the grants have aged. -/
theorem State.age_slots (s : State) (e : TargetPort) (n : Slot) :
    Table.get ((s.age e).arb e).slots n =
      { generation := (Table.get (s.arb e).slots n).generation
        grant := (grantAt s e n).bind fun g =>
          if (s.arb e).view.lifetime ≤ g.age + 1 then none else some { g with age := g.age + 1 } } := by
  rw [State.age_arb]
  simp only [Table.get_tab, any_older_iff, Arbiter.aged]
  rw [← show grantAt s e n = (Table.get (s.arb e).slots n).grant from rfl]
  cases hg : grantAt s e n with
  | none => simp
  | some g =>
    by_cases hage : (s.arb e).view.lifetime ≤ g.age + 1
    · rw [if_pos ⟨g, rfl, decide_eq_true hage⟩, Option.bind_some, if_pos hage]
    · rw [if_neg, Option.bind_some, if_neg hage, Option.map_some]
      rintro ⟨x, hx, hxage⟩
      cases hx
      exact hage (of_decide_eq_true hxage)

theorem State.setReports_arbiter_cmd (s : State) (e : TargetPort) (x : List FaultReport) :
    (s.setReports (.arbiter e) x).cmd = s.cmd := rfl

theorem State.setReports_arbiter_link (s : State) (e : TargetPort) (x : List FaultReport) :
    (s.setReports (.arbiter e) x).link = s.link := rfl

/-- An expiry hands its CANCEL records on and then takes the tags out of the drain sets. -/
theorem State.age_eq (s : State) (e : TargetPort) :
    ∃ w : State, s.age e = w.drainSets ((slotsWhere s e (ages s e)).map fun x => tagAt s e x.1) ∧ w.cmd = s.cmd ∧
      Table.get w.link.waiting e = handedOn s e ((slotsWhere s e (ages s e)).map fun x =>
        .cancel (tagAt s e x.1) x.2.flow x.2.remaining) := by
  set v := s.setArb e (s.arb e).aged with hv
  have arb : v.arb e = (s.arb e).aged := s.setArb_arb_self e _
  have gone : (v.arb e).expired = (slotsWhere s e (ages s e)).map older := by rw [arb, expired_aged]
  have cancel : ((slotsWhere s e (ages s e)).map older).map (v.cancelOf e) =
      (slotsWhere s e (ages s e)).map fun x => .cancel (tagAt s e x.1) x.2.flow x.2.remaining := by
    rw [List.map_map]
    refine List.map_congr_left fun x _ => ?_
    rw [Function.comp_apply, State.cancelOf, arb, tagAt_aged]
    rfl
  have tags : ((slotsWhere s e (ages s e)).map older).map (fun x => (v.arb e).tagAt e x.1) =
      (slotsWhere s e (ages s e)).map fun x => tagAt s e x.1 := by
    rw [List.map_map]
    refine List.map_congr_left fun x _ => ?_
    rw [Function.comp_apply, arb, tagAt_aged]
    rfl
  set h := (v.retire e (v.arb e).expired).hand e ((v.arb e).expired.map (v.cancelOf e)) with hh
  have hage : s.age e = (h.setReports (.arbiter e) (h.reportsOf (.arbiter e) ++ (v.arb e).expired.map (expiredFault e))).drainSets
      ((v.arb e).expired.map fun x => (v.arb e).tagAt e x.1) := rfl
  refine ⟨_, by rw [hage, gone, tags], ?_, ?_⟩
  · rw [State.setReports_arbiter_cmd, hh, State.hand_cmd, State.retire_cmd]
    rfl
  · rw [State.setReports_arbiter_link, hh, handedOn_eq, gone, cancel]
    rfl

theorem State.age_waiting (s : State) (e : TargetPort) :
    Table.get (s.age e).link.waiting e = handedOn s e ((slotsWhere s e (ages s e)).map fun x =>
      .cancel (tagAt s e x.1) x.2.flow x.2.remaining) := by
  obtain ⟨w, hw, -, hwaiting⟩ := s.age_eq e
  rw [hw, State.link_drainSets, hwaiting]

theorem State.age_account (s : State) (e : TargetPort) (f : Flow) :
    (s.age e).flow f = { s.flow f with
      demand := { (s.flow f).demand with
        outstanding := (s.flow f).demand.outstanding - cellsOf (slotsWhere s e (ages s e)) f
        grantCount := (s.flow f).demand.grantCount - grantsOf (slotsWhere s e (ages s e)) f } } := by
  have cells : remainingOf ((slotsWhere s e (ages s e)).map older) f = cellsOf (slotsWhere s e (ages s e)) f := by
    rw [remainingOf, List.filter_map, List.map_map]
    rfl
  have count : countOf ((slotsWhere s e (ages s e)).map older) f = grantsOf (slotsWhere s e (ages s e)) f := by
    rw [countOf, List.filter_map, List.length_map]
    rfl
  rw [State.age_flow, expired_aged, Demand.less, cells, count]

/-- The drain sets after a change depend on the executor alone. -/
theorem drained_congr {v : State} {tags : List GrantTag} (h : Drained u v tags) (hs : u.cmd = s.cmd) (ht : t.cmd = v.cmd) :
    Drained s t tags := by
  simpa only [Drained, State.mgmt, hs, ht] using h

theorem drained_age (s : State) (e : TargetPort) :
    Drained s (s.age e) ((slotsWhere s e (ages s e)).map fun x => tagAt s e x.1) := by
  obtain ⟨w, hw, hcmd, -⟩ := s.age_eq e
  rw [hw]
  exact drained_congr (drained_drainSets w _) hcmd rfl

theorem exec_arbiterEpochExpiry (hlive : Live s) (h : 0 < (s.arb e).expiries) :
    exec (.arbiterEpochExpiry e) s = .next
      ((((s.setArb e { s.arb e with expiries := (s.arb e).expiries - 1 }).age e).renewBudget e).sendTally e) := by
  show execArbiterEpochExpiry e s = _
  rw [execArbiterEpochExpiry, s.live_of_high _ hlive, if_neg (by omega)]

theorem State.sendTally_arb (s : State) (e : TargetPort) :
    (s.sendTally e).arb e = { s.arb e with tallies := (s.arb e).tallies ++ [s.tallyOf e] } := by
  rw [State.sendTally, State.withHeld_arb, State.setArb_arb_self]

theorem State.renewBudget_arb (s : State) (e : TargetPort) :
    (s.renewBudget e).arb e = { s.arb e with budget := (s.arb e).view.capacity, granted := 0 } := s.setArb_arb_self e _

/-- Settles O8, along the stages of the expiry: ages, drain sets, budget, tally. -/
theorem arbiterTakesExpiryWhole : Obligations.ArbiterTakesExpiryWhole := by
  unfold Obligations.ArbiterTakesExpiryWhole
  intro s e hlive hexpiries
  have row := exec_arbiterEpochExpiry hlive hexpiries
  set u := s.setArb e { s.arb e with expiries := (s.arb e).expiries - 1 } with hu
  set w := (u.age e).renewBudget e with hw
  have arb : u.arb e = { s.arb e with expiries := (s.arb e).expiries - 1 } := s.setArb_arb_self e _
  have gone : slotsWhere u e (ages u e) = slotsWhere s e (ages s e) := by
    rw [slotsWhere_eq, slotsWhere_eq, arb]
    simp only [ages, arb]
    rfl
  have tag : ∀ n, tagAt u e n = tagAt s e n := fun n => by rw [tagAt, arb]; rfl
  have aged := u.age_arb e
  have final : (w.sendTally e).arb e = { (u.age e).arb e with
      budget := ((u.age e).arb e).view.capacity, granted := 0
      tallies := ((u.age e).arb e).tallies ++ [w.tallyOf e] } := by
    rw [State.sendTally_arb, hw, State.renewBudget_arb]
  have flow : ∀ f, w.flow f = { s.flow f with
      demand := { (s.flow f).demand with
        outstanding := (s.flow f).demand.outstanding - cellsOf (slotsWhere s e (ages s e)) f
        grantCount := (s.flow f).demand.grantCount - grantsOf (slotsWhere s e (ages s e)) f } } := fun f => by
    rw [← gone]
    exact u.age_account e f
  have holds : ∀ f, w.holds e f = ((s.flow f).holder == some e) := fun f => by rw [State.holds, flow]
  refine ⟨_, row, fun n => ?_, ?_, ?_, ?_, ?_, ?_, ?_, fun f => ?_, ?_, ?_, ?_, ?_, ?_, ?_, ?_, changesOnly_of_exec row nofun⟩
  · have slots : Table.get ((w.sendTally e).arb e).slots n = Table.get ((u.age e).arb e).slots n := by rw [final]
    rw [grantAt, slots, u.age_slots, grantAt, arb]
    exact ⟨rfl, rfl⟩
  · rw [final, aged, arb]
  · rw [final]
  · rw [final, aged, arb]
    exact Nat.sub_add_cancel hexpiries
  · rw [final, aged, gone, arb]
    simp only [tag]
  · rw [final, aged, gone, arb]
  · have link : (w.sendTally e).link = (u.age e).link := rfl
    rw [link, u.age_waiting, gone]
    simp only [tag]
    rfl
  · rw [State.sendTally_flow, holds, flow]
    by_cases hf : Holds s e f
    · rw [if_pos (by exact beq_iff_eq.2 hf), if_pos hf]
      rfl
    · rw [if_neg (by exact fun h => hf (beq_iff_eq.1 h)), if_neg hf]
  · have before : ((u.age e).arb e).tallies = (s.arb e).tallies := by rw [aged, arb]
    have bound : w.holds e = fun f => decide ((s.flow f).holder = some e) := by
      funext f
      rw [holds, beq_eq_decide]
    have entries : (((List.finRange 96).filter (w.holds e)).map fun f => tallyEntry f (w.flow f).demand) =
        ((List.finRange 96).filter fun f => decide ((s.flow f).holder = some e)).map fun f =>
          { flow := f, delivered := (s.flow f).demand.delivered
            demanding := decide (((w.sendTally e).flow f).demand.outstanding < (s.flow f).demand.backlog)
            grants := ((w.sendTally e).flow f).demand.grantCount } := by
      rw [bound]
      refine List.map_congr_left fun f hf => ?_
      have hf : w.holds e f = true := by rw [bound]; exact (List.mem_filter.1 hf).2
      rw [State.sendTally_flow, if_pos hf, tallyEntry, flow]
      simp only [Demand.counted, Demand.pending, TallyEntry.mk.injEq, true_and, and_true]
      exact decide_eq_decide.2 Nat.sub_pos_iff_lt
    rw [final, before, State.tallyOf, entries]
  · rw [final, aged, arb]
  · rw [final, aged, arb]
  · rw [final, aged, arb]
  · rw [final, aged, arb]
  · rw [final, aged, arb]
  · rw [← gone]
    simp only [← tag]
    exact drained_congr (drained_age u e) rfl rfl

end Sys2Proof.Machine
end

section
/-! PROOFS. Grants that are issued, and the records that go out: O14 and O15. -/

namespace Sys2Proof.Machine

open Sys2Proof.Safety

variable {s t u : State} {e : TargetPort} {f g : Flow} {n : Slot} {A : List Part}

/-! ## Candidates (R70 to R72) -/

theorem grantSize_eq (s : State) (e : TargetPort) (f : Flow) : s.grantSize e f = size s e f := rfl

theorem State.eligible_iff (s : State) (e : TargetPort) (f : Flow) : s.eligible e f = true ↔ Eligible s e f := by
  simp only [State.eligible, State.sizePasses, State.holds, State.trippedAt, Bool.and_eq_true, Bool.or_eq_true,
    decide_eq_true_eq, beq_iff_eq, Bool.not_eq_true', ← Bool.not_eq_true, s.isOff_iff, and_assoc]
  simp only [grantSize_eq, Demand.pending, Nat.sub_pos_iff_lt]

theorem State.candidate_iff (s : State) (e : TargetPort) (f : Flow) : s.candidate e f = true ↔ Candidate s e f := by
  have free : (s.arb e).freeSlots = (freeSlots s e).length := rfl
  rw [State.candidate, Bool.and_eq_true, s.eligible_iff, Arbiter.slotUsable, free]
  refine and_congr_right fun _ => ?_
  split <;> exact decide_eq_true_iff

/-! ## The choice (R73, R74) -/

theorem behind_lt (p f : Flow) : behind p f < 96 := Nat.mod_lt _ (by omega)

/-- The search order places each flow by how far it lies behind the pointer. -/
theorem rotation_behind (p f : Flow) : (p.val + 1 + behind p f) % 96 = f.val := by
  have hf := f.isLt
  have hp := p.isLt
  rw [behind]
  omega

theorem behind_rotation (p : Flow) (k : Fin 96) :
    behind p ⟨(p.val + 1 + k.val) % 96, Nat.mod_lt _ (by omega)⟩ = k.val := by
  have hk := k.isLt
  have hp := p.isLt
  simp only [behind]
  omega

/-- The first flow behind a pointer that passes a test. -/
theorem find?_rotationFrom {p : Flow} {test : Flow → Bool} (hf : test f = true)
    (hmin : ∀ g, test g = true → behind p f ≤ behind p g) : (rotationFrom p).find? test = some f := by
  have found : (List.finRange 96).find? (test ∘ fun k => (⟨(p.val + 1 + k.val) % 96, Nat.mod_lt _ (by omega)⟩ : Flow)) =
      some ⟨behind p f, behind_lt p f⟩ := by
    rw [find?_finRange_iff]
    refine ⟨?_, fun k hk => ?_⟩
    · rw [Function.comp_apply, show (⟨_, _⟩ : Flow) = f from Fin.ext (rotation_behind p f), hf]
    · rw [← Bool.not_eq_true]
      intro htest
      have := hmin _ htest
      rw [behind_rotation] at this
      exact absurd hk (Nat.not_lt.2 this)
  rw [rotationFrom, List.find?_map, found, Option.map_some]
  exact congrArg some (Fin.ext (rotation_behind p f))

theorem findSome?_finRange_iff {α : Type} {m : Nat} {pick : Fin m → Option α} {x : α} :
    (List.finRange m).findSome? pick = some x ↔ ∃ i, pick i = some x ∧ ∀ k < i, pick k = none := by
  rw [← Fin.findSome?_eq_findSome?_finRange, Fin.findSome?_eq_some_iff]

theorem State.firstOfClass_eq_none (s : State) (e : TargetPort) {c : Urgency}
    (h : ∀ g, Candidate s e g → (s.flow g).view.urgency ≠ c) : s.firstOfClass e c = none := by
  rw [State.firstOfClass, List.find?_eq_none]
  intro g _ hg
  rw [Bool.and_eq_true, s.candidate_iff, beq_iff_eq] at hg
  exact h g hg.1 hg.2

theorem State.chosenFlow_of_chosen (h : Chosen s e f) : s.chosenFlow e = some f := by
  obtain ⟨hcandidate, hmin⟩ := h
  rw [State.chosenFlow, findSome?_finRange_iff]
  refine ⟨(s.flow f).view.urgency, ?_, fun c hc => s.firstOfClass_eq_none e fun g hg hclass => ?_⟩
  · rw [State.firstOfClass]
    refine find?_rotationFrom ?_ fun g hg => ?_
    · rw [(s.candidate_iff e f).2 hcandidate, beq_self_eq_true, Bool.and_self]
    · rw [Bool.and_eq_true, s.candidate_iff, beq_iff_eq] at hg
      rcases hmin g hg.1 with hlt | ⟨-, hle⟩
      · rw [hg.2] at hlt
        exact absurd hlt (lt_irrefl _)
      · exact hle
  · rw [← hclass] at hc
    rcases hmin g hg with hlt | ⟨heq, -⟩
    · exact absurd hc (lt_asymm hlt)
    · rw [heq] at hc
      exact absurd hc (lt_irrefl _)

theorem State.chosenFlow_eq_none (h : ∀ f, ¬ Candidate s e f) : s.chosenFlow e = none := by
  rw [State.chosenFlow, List.findSome?_eq_none_iff]
  exact fun c _ => s.firstOfClass_eq_none e fun g hg => absurd hg (h g)

theorem lowestFree_eq (s : State) (e : TargetPort) : (s.arb e).lowestFree = (freeSlots s e).head? := by
  rw [freeSlots, List.head?_filter]
  rfl

/-! ## The issue (R77) -/

theorem State.issue_arb (s : State) (e : TargetPort) (f : Flow) (n : Slot) (k : Nat) :
    (s.issue e f n k).arb e = (s.arb e).issue f (s.flow f).view.urgency n k := by
  rw [State.issue]
  rw [State.hand_arb, State.setDemand_arb, State.setArb_arb_self]

theorem State.issue_waiting (s : State) (e : TargetPort) (f : Flow) (n : Slot) (k : Nat) :
    Table.get (s.issue e f n k).link.waiting e = handedOn s e
      [.grant { port := e, slot := n, generation := (Table.get (s.arb e).slots n).generation + 1 } f k] := by
  have tag : ((s.arb e).issue f (s.flow f).view.urgency n k).tagAt e n =
      { port := e, slot := n, generation := (Table.get (s.arb e).slots n).generation + 1 } := by
    rw [Arbiter.tagAt, Arbiter.issue, Table.get_put_self]
  rw [State.issue]
  rw [handedOn_eq, State.setDemand_arb, State.setArb_arb_self, tag]
  rfl

theorem exec_grantIssue_of_none (hlive : Live s) (h : s.chosenFlow e = none) : exec (.grantIssue e) s = .next s := by
  show execGrantIssue e s = _
  rw [execGrantIssue, s.live_of_high _ hlive]
  simp only [h]

theorem exec_grantIssue_of_chosen (hlive : Live s) (hf : s.chosenFlow e = some f) (hn : (s.arb e).lowestFree = some n) :
    exec (.grantIssue e) s = .next (s.issue e f n (s.grantSize e f)) := by
  show execGrantIssue e s = _
  rw [execGrantIssue, s.live_of_high _ hlive]
  simp only [hf, hn]

/-- Settles O14, from the agreement of the chosen flow, the lowest slot and the grant size with their specifications. -/
theorem grantIssuedToChosenFlow : Obligations.GrantIssuedToChosenFlow := by
  unfold Obligations.GrantIssuedToChosenFlow
  refine fun s e hlive => ⟨fun hnone =>
    exec_grantIssue_of_none hlive (State.chosenFlow_eq_none hnone), fun f n hf hn => ?_⟩
  · have row := exec_grantIssue_of_chosen hlive (State.chosenFlow_of_chosen hf) ((lowestFree_eq s e).trans hn)
    rw [grantSize_eq] at row
    refine ⟨_, row, fun k => ?_, ?_, ?_, ?_, ?_, s.issue_waiting e f n _, ?_⟩
    · rw [State.issue_arb, Arbiter.issue, Table.get_put]
    · rw [State.issue_flow, if_pos rfl]
      rfl
    · rw [State.issue_arb]
      rfl
    · exact Nat.le_trans (Nat.min_le_left _ _) (Nat.min_le_right _ _)
    · exact Nat.le_trans (Nat.min_le_right _ _) (Nat.min_le_right _ _)
    · exact changesOnly_issue (by simp) (by simp) (by simp)

/-! ## The record that goes out (R78, R169) -/

theorem checkPasses_withCheck (b0 b1 b2 b3 b4 b5 b6 : Byte) : checkPasses (withCheck b0 b1 b2 b3 b4 b5 b6) = true :=
  beq_self_eq_true _

theorem be16_byteOf (n : Nat) : be16 (byteOf (n / 256)) (byteOf n) = n % 65536 := by
  rw [be16, byteOf_toNat, byteOf_toNat]
  omega

theorem tagNumber_lt (x : GrantTag) : tagNumber x < 4096 := by
  have hp := x.port.isLt
  have hs := x.slot.isLt
  have hg := x.generation.isLt
  rw [tagNumber]
  omega

theorem flowByte_toNat (f : Flow) : (flowByte f).toNat = f.val / 4 * 8 + f.val % 4 * 2 + 1 := by
  have hf := f.isLt
  rw [flowByte, byteOf_toNat]
  omega

/-- The bytes of an outbound record carry its tag, its flow and its cells. -/
theorem outBytes_fields (kind : Byte) (x : GrantTag) (f : Flow) (n : Nat) :
    let b := withCheck kind (byteOf (tagNumber x / 256)) (byteOf (tagNumber x)) (flowByte f) (byteOf (n / 256)) (byteOf n) 0
    b[0] = kind ∧ be16 b[1] b[2] = x.port.val * 512 + x.slot.val * 64 + x.generation.toNat ∧
      b[3].toNat = f.val / 4 * 8 + f.val % 4 * 2 + 1 ∧ be16 b[4] b[5] = n % 65536 := by
  refine ⟨rfl, ?_, flowByte_toNat f, be16_byteOf n⟩
  exact (be16_byteOf (tagNumber x)).trans (Nat.mod_eq_of_lt (Nat.lt_trans (tagNumber_lt x) (by omega)))

theorem checkPasses_outBytes (x : OutRecord) : checkPasses (outBytes x) = true := by
  cases x <;> exact checkPasses_withCheck _ _ _ _ _ _ _

/-- Settles O15, by the layout of the two kinds of record. -/
theorem oldestRecordIsSent : Obligations.OldestRecordIsSent := by
  unfold Obligations.OldestRecordIsSent
  intro s e x later hlive hup hx
  have row : exec (.linkRecordSend e) s =
      .next (s.withLink { s.link with waiting := Table.put s.link.waiting e later, sent := some (outBytes x) }) := by
    show execLinkRecordSend e s = _
    rw [execLinkRecordSend, s.live_of_high _ hlive]
    simp only [hx, hup, if_true]
  refine ⟨_, row, Table.get_put_self _ _ _, changesOnly_of_exec row nofun, outBytes x, rfl, checkPasses_outBytes x, ?_, ?_, ?_⟩
  · cases x <;> rfl
  · rintro tag f n rfl
    exact outBytes_fields 9 tag f n
  · rintro tag f n rfl
    exact outBytes_fields 10 tag f n

end Sys2Proof.Machine
end

section
/-! PROOFS. The Rate Engine: tallies that join or merge, the share division and the rate controller; O9 to O12. -/

namespace Sys2Proof.Machine

open Sys2Proof.Safety

variable {s t u : State} {e : TargetPort} {f g : Flow} {y z : Tally} {A : List Part}

/-! ## The tally queue (R32, R33) -/

theorem entryOf_eq (y : Tally) (f : Flow) : y.entryOf f = entryFor y f := rfl

/-- The entry of a merged tally for a flow. -/
theorem entryFor_merge (y z : Tally) (f : Flow) : entryFor (y.merge z) f = mergedEntry y z f := by
  rw [entryFor, Tally.merge, List.find?_filterMap]
  cases hf : mergedEntry y z f with
  | none =>
    rw [find?_finRange_eq_none.2, Option.bind_none]
    intro k
    cases hk : mergedEntry y z k with
    | none => rfl
    | some x =>
      rw [Option.any_some, decide_eq_false_iff_not, flow_of_mergedEntry hk]
      rintro rfl
      rw [hf] at hk
      cases hk
  | some x =>
    rw [find?_finRange_iff.2 ⟨?_, fun k hk => ?_⟩, Option.bind_some, hf]
    · rw [hf, Option.any_some, decide_eq_true_eq, flow_of_mergedEntry hf]
    · cases hk' : mergedEntry y z k with
      | none => rfl
      | some w =>
        rw [Option.any_some, decide_eq_false_iff_not, flow_of_mergedEntry hk']
        exact ne_of_lt hk

theorem mergeInto_at {before after : List Tally} (hbefore : ∀ x ∈ before, x.port ≠ z.port) (hy : y.port = z.port) :
    mergeInto z (before ++ y :: after) = before ++ y.merge z :: after := by
  induction before with
  | nil => exact if_pos hy
  | cons x l ih =>
    obtain ⟨hx, hl⟩ := List.forall_mem_cons.1 hbefore
    rw [List.cons_append, mergeInto, if_neg hx, ih hl, List.cons_append]

theorem exec_tallyArrival {later : List Tally} (hlive : Live s) (h : (s.arb e).tallies = y :: later) :
    exec (.tallyArrival e) s = .next ((s.setArb e { s.arb e with tallies := later }).enqueueTally y) := by
  show execTallyArrival e s = _
  rw [execTallyArrival, s.live_of_high _ hlive]
  simp only [h]

theorem State.enqueueTally_arb (s : State) (y : Tally) (k : TargetPort) : (s.enqueueTally y).arb k = s.arb k := by
  rw [State.enqueueTally]
  split <;> rfl

theorem State.enqueueTally_of_new (h : ∀ x ∈ s.rate.queue, x.port ≠ y.port) :
    s.enqueueTally y = s.withRate { s.rate with queue := s.rate.queue ++ [y] } := by
  rw [State.enqueueTally, if_neg]
  rw [List.any_eq_true]
  rintro ⟨x, hx, hport⟩
  exact h x hx (beq_iff_eq.1 hport)

theorem State.enqueueTally_of_queued (h : ∃ x ∈ s.rate.queue, x.port = y.port) :
    s.enqueueTally y = (s.withRate { s.rate with queue := mergeInto y s.rate.queue }).report .rate
      { kind := .tallyMerged, flow := none, port := some y.port } := by
  rw [State.enqueueTally, if_pos]
  obtain ⟨x, hx, hport⟩ := h
  exact List.any_eq_true.2 ⟨x, hx, beq_iff_eq.2 hport⟩

/-- Settles O9, by whether the port has a tally in the queue. -/
theorem tallyJoinsOrMerges : Obligations.TallyJoinsOrMerges := by
  unfold Obligations.TallyJoinsOrMerges
  intro s e new later hlive h
  have row := exec_tallyArrival hlive h
  set u := s.setArb e { s.arb e with tallies := later } with hu
  have rate : u.rate = s.rate := rfl
  refine ⟨_, row, (u.enqueueTally_arb new e).trans (s.setArb_arb_self e _), fun hnew => ?_,
    fun before old after hqueue hbefore hport => ?_, changesOnly_of_exec row nofun⟩
  · rw [State.enqueueTally_of_new (by rw [rate]; exact hnew)]
    exact ⟨rfl, rfl⟩
  · have hmem : ∃ x ∈ u.rate.queue, x.port = new.port := ⟨old, by rw [rate, hqueue]; simp, hport⟩
    rw [State.enqueueTally_of_queued hmem]
    refine ⟨rfl, old.merge new, ?_, rfl, fun f => ?_⟩
    · exact (congrArg (mergeInto new) hqueue).trans (mergeInto_at hbefore hport)
    · rw [entryFor_merge, mergedEntry, entryOf_eq, entryOf_eq]
      cases entryFor old f <;> cases entryFor new f <;> rfl

/-! ## The active set and its targets (R36 to R39) -/

theorem figure_delivered (y : Tally) (f : Flow) : (y.figure f).delivered = deliveredIn y f := by
  rw [Tally.figure, entryOf_eq, deliveredIn]
  cases entryFor y f <;> rfl

/-- A flow without an entry does not compete. -/
theorem figure_competes (y : Tally) (f : Flow) : competes (y.figure f) = (entryFor y f).any competes := by
  rw [Tally.figure, entryOf_eq]
  cases entryFor y f <;> rfl

theorem State.serves_iff (s : State) (y : Tally) (f : Flow) :
    (s.boundTo y.port f && !s.isOff f && !s.rateTripped y.port f) = true ↔ Serves s y f := by
  simp only [State.boundTo, State.rateTripped, Bool.and_eq_true, beq_iff_eq, Bool.not_eq_true', ← Bool.not_eq_true,
    s.isOff_iff, and_assoc]

theorem State.active_iff (s : State) (y : Tally) (f : Flow) : s.active y f = true ↔ Active s y f := by
  rw [State.active, Bool.and_eq_true, s.serves_iff]
  refine and_congr_right fun _ => ?_
  rw [← figure_competes]
  rfl

theorem State.activeSet_eq (s : State) (y : Tally) : s.activeSet y = activeFlows s y :=
  List.filter_congr fun f _ => by rw [Bool.eq_iff_iff, s.active_iff, decide_eq_true_iff]

theorem State.target_eq (s : State) (y : Tally) (f : Flow) : s.target y f = targetOf s y f := by
  rw [State.target, State.baseShare, State.surplus, State.floorSumActive, State.weightSumActive, s.activeSet_eq]
  rfl

/-! ## What a computation stores (R40, R61) -/

theorem State.computed_of_idle (h : ¬ Active s y f) : s.computed y f = (s.rflow f).ctl :=
  if_neg fun ha => h ((s.active_iff y f).1 ha)

theorem State.computed_of_frozen (h : Active s y f) (hf : (s.rflow f).ctl.frozen = true) :
    s.computed y f = { (s.rflow f).ctl with lastTarget := targetOf s y f } := by
  rw [← s.target_eq]
  exact (if_pos ((s.active_iff y f).2 h)).trans (if_pos hf)

theorem State.computed_of_active (h : Active s y f) (hf : (s.rflow f).ctl.frozen = false) :
    s.computed y f = runController (Table.get s.rate.profiles (s.rflow f).view.profile) (s.rflow f).view.floor
      (s.rflow f).view.ceiling (Table.get s.rate.capacity y.port) (targetOf s y f) (deliveredIn y f)
      { (s.rflow f).ctl with lastTarget := targetOf s y f } := by
  rw [← s.target_eq, ← figure_delivered]
  exact (if_pos ((s.active_iff y f).2 h)).trans (if_neg (by rw [hf]; exact Bool.false_ne_true))

theorem runController_lastTarget (p : Profile) (floor ceiling capacity target d : Nat) (x : Controller) :
    (runController p floor ceiling capacity target d x).lastTarget = x.lastTarget := by
  rw [runController, startStage]
  split <;> rfl

theorem State.computed_lastTarget (h : Active s y f) : (s.computed y f).lastTarget = targetOf s y f := by
  cases hf : (s.rflow f).ctl.frozen with
  | true => rw [State.computed_of_frozen h hf]
  | false => rw [State.computed_of_active h hf, runController_lastTarget]

theorem filterMap_ite {α β : Type} (test : α → Bool) (form : α → β) (l : List α) :
    (l.filterMap fun x => if test x then some (form x) else none) = (l.filter test).map form := by
  induction l with
  | nil => rfl
  | cons x l ih => cases h : test x <;> simp [h, ih]

/-- The refill set of a computation (R41). -/
theorem State.refills_eq (s : State) (y : Tally) :
    (List.finRange 96).filterMap (s.refillOf y) =
      ((List.finRange 96).filter fun f => Serves s y f).map fun f => (f, (s.computed y f).rate) := by
  rw [← filterMap_ite]
  refine List.filterMap_congr fun f _ => ?_
  rw [State.refillOf]
  exact if_congr ((s.serves_iff y f).trans decide_eq_true_iff.symm) rfl rfl

theorem State.compute_rflow (s : State) (y : Tally) (f : Flow) :
    (s.compute y).rflow f = { view := (s.rflow f).view, ctl := s.computed y f } := by
  simp only [State.compute, State.setArb_rflow, State.withRate_rflow, Table.get_tab]

theorem State.compute_arb (s : State) (y : Tally) :
    (s.compute y).arb y.port =
      { s.arb y.port with refills := (s.arb y.port).refills ++ [(List.finRange 96).filterMap (s.refillOf y)] } := by
  rw [State.compute, State.setArb_arb_self]

theorem changesOnly_compute (s : State) (y : Tally) : changesOnly s (s.compute y) (.arbiter y.port :: allRateFlows) :=
  (changesOnly_withRate (flows := by simp)).trans (changesOnly_setArb (by simp))

theorem exec_tallyComputation {rest : List Tally} (hlive : Live s) (h : s.rate.queue = y :: rest) :
    exec .tallyComputation s = .next
      (if (s.mon y.port).enable && (s.mon y.port).linkUp then (s.withRate { s.rate with queue := rest }).compute y
      else s.withRate { s.rate with queue := rest }) := by
  show execTallyComputation s = _
  rw [execTallyComputation, s.live_of_high _ hlive]
  simp only [h]
  rfl

/-- A computation at a port in service. -/
theorem exec_tallyComputation_of_up {rest : List Tally} (hlive : Live s) (h : s.rate.queue = y :: rest)
    (hen : (s.mon y.port).enable = true) (hup : (s.mon y.port).linkUp = true) :
    exec .tallyComputation s = .next ((s.withRate { s.rate with queue := rest }).compute y) := by
  rw [exec_tallyComputation hlive h, hen, hup, Bool.and_self, if_pos rfl]

/-- Settles O10, by the port in service or not, and then flow by flow. -/
theorem tallyDividesTheShare : Obligations.TallyDividesTheShare := by
  unfold Obligations.TallyDividesTheShare
  intro s y rest hlive h
  set u := s.withRate { s.rate with queue := rest } with hu
  have popped : ∀ {B : List Part}, Part.tallyQueue ∈ B → changesOnly s u B := fun hB =>
    changesOnly_withRate (queue := fun hn => absurd hB hn)
  have row := exec_tallyComputation hlive h
  by_cases hserve : (s.mon y.port).enable = true ∧ (s.mon y.port).linkUp = true
  · rw [if_pos (Bool.and_eq_true_iff.2 hserve)] at row
    refine ⟨_, row, rfl, fun hno => ?_, fun _ _ => ⟨fun f => ?_, ?_, ?_⟩⟩
    · rw [hserve.1, hserve.2] at hno
      exact hno.elim (fun h => nomatch h) fun h => nomatch h
    · rw [State.compute_rflow]
      exact ⟨rfl, fun ha => State.computed_lastTarget (s := u) ha, fun ha hf => State.computed_of_frozen (s := u) ha hf,
        fun hn => State.computed_of_idle (s := u) hn⟩
    · simp only [← hu, State.compute_arb, State.refills_eq, State.compute_rflow]
      rfl
    · exact (popped (by simp)).trans ((changesOnly_compute u y).mono (by simp))
  · rw [if_neg (fun h => hserve (Bool.and_eq_true_iff.1 h))] at row
    exact ⟨_, row, rfl, fun _ => popped (by simp), fun hen hup => absurd ⟨hen, hup⟩ hserve⟩

/-! ## The rate controller, stage by stage (R43 to R59) -/

theorem errorOf_eq (p : Profile) (st : FlowState) (n d : Nat) :
    errorOf p st n d = max (-(p.negativeClamp : Int))
      (min (if st = .start then (p.startClamp : Int) else p.positiveClamp) ((n : Int) - min (d : Int) 16383)) := by
  rw [errorOf, clampInt, Nat.cast_min]
  rfl

theorem outputTerm_eq (gain shift : Nat) (x : Int) : outputTerm gain shift x = (gain : Int) * x / (2 : Int) ^ shift := by
  rw [outputTerm, Int.fdiv_eq_ediv_of_nonneg _ (Int.natCast_nonneg _), Nat.cast_pow]
  rfl

theorem startStage_eq (p : Profile) (n d : Nat) (x : Controller) :
    startStage p n d x = { x with
      startCount := if x.state = .start then min (x.startCount + 1) 15 else x.startCount
      state := if x.state = .start ∧ n ≤ d ∧ p.startHold ≤ min (x.startCount + 1) 15 then .run else x.state } := by
  rw [startStage]
  by_cases hx : x.state = .start
  · rw [if_pos hx]
    simp only [hx, true_and, if_true]
  · rw [if_neg hx]
    simp only [hx, false_and, if_false]

/-- Settles O11, with each stage of the model equal to the stage of the statement. -/
theorem rateControllerStages : Obligations.RateControllerStages := by
  unfold Obligations.RateControllerStages
  intro s y rest f hlive h hen hup hactive hfrozen P old target d upper error held integrator candidate limit acts x top rate count
  set u := s.withRate { s.rate with queue := rest } with hu
  refine ⟨_, exec_tallyComputation_of_up hlive h hen hup, ?_⟩
  rw [State.compute_rflow]
  refine (State.computed_of_active (s := u) hactive hfrozen).trans ?_
  show runController P (s.rflow f).view.floor (s.rflow f).view.ceiling (Table.get s.rate.capacity y.port) (targetOf s y f) d
    { old with lastTarget := targetOf s y f } = _
  have herror : errorOf P old.state (targetOf s y f) d = error := errorOf_eq _ _ _ _
  have hintegrator : integratorOf P { old with lastTarget := targetOf s y f } error = integrator := rfl
  have hcandidate : (targetOf s y f : Int) + outputOf P error integrator = candidate := by
    rw [outputOf, outputTerm_eq, outputTerm_eq]
  have hacts : stepActs P { old with lastTarget := targetOf s y f } candidate = acts := rfl
  have hx : limited P { old with lastTarget := targetOf s y f } candidate = x := rfl
  have hrate : boundClamp (s.rflow f).view.floor (s.rflow f).view.ceiling (Table.get s.rate.capacity y.port) x = rate := rfl
  rw [runController]
  dsimp only
  rw [herror, hintegrator, hcandidate, hacts, hx, hrate, startStage_eq]
  rw [show old.frozen = false from hfrozen]
  rfl

/-! ## What fits the capacity (R39) -/

/-- The shares of a division by weight sum to at most what is divided. -/
theorem sum_shares_le {α : Type} (surplus : Nat) (weight : α → Nat) (l : List α) :
    (l.map fun x => surplus * weight x / (l.map weight).sum).sum ≤ surplus := by
  have scaled : ∀ (W : Nat) (l : List α),
      (l.map fun x => surplus * weight x / W).sum * W ≤ surplus * (l.map weight).sum := by
    intro W l
    induction l with
    | nil => simp
    | cons x l ih =>
      rw [List.map_cons, List.sum_cons, List.map_cons, List.sum_cons, Nat.add_mul, Nat.mul_add]
      exact Nat.add_le_add (Nat.div_mul_le_self _ _) ih
  rcases Nat.eq_zero_or_pos (l.map weight).sum with hzero | hpos
  · rw [hzero]
    simp
  · exact Nat.le_of_mul_le_mul_right (scaled _ l) hpos

theorem sum_targets_le (hfloors : sumActive s y (·.floor) ≤ Table.get s.rate.capacity y.port) :
    ((activeFlows s y).map fun f => targetOf s y f).sum ≤ Table.get s.rate.capacity y.port := by
  set surplus := Table.get s.rate.capacity y.port - sumActive s y (·.floor) with hsurplus
  have hle : ((activeFlows s y).map fun f => targetOf s y f).sum ≤
      ((activeFlows s y).map fun f => (s.rflow f).view.floor + surplus * (s.rflow f).view.weight / sumActive s y (·.weight)).sum :=
    List.sum_le_sum fun f _ => Nat.min_le_left _ _
  have hsplit : ((activeFlows s y).map fun f =>
        (s.rflow f).view.floor + surplus * (s.rflow f).view.weight / sumActive s y (·.weight)).sum =
      sumActive s y (·.floor) +
        ((activeFlows s y).map fun f => surplus * (s.rflow f).view.weight / sumActive s y (·.weight)).sum :=
    List.sum_map_add
  have hshares : ((activeFlows s y).map fun f => surplus * (s.rflow f).view.weight / sumActive s y (·.weight)).sum ≤ surplus :=
    sum_shares_le surplus (fun f => (s.rflow f).view.weight) (activeFlows s y)
  omega

/-- A profile with both gains 0 and the widest start step makes the rate the target (R24). -/
theorem runController_transparent (p : Profile) {floor ceiling capacity target d : Nat} {x : Controller} (hkp : p.kp = 0)
    (hki : p.ki = 0) (hstep : p.startStep = 16383) (hlow : floor ≤ target) (hceiling : target ≤ ceiling)
    (hcapacity : target ≤ capacity) (hcells : ceiling ≤ 16383) :
    (runController p floor ceiling capacity target d x).rate = target ∧
      (runController p floor ceiling capacity target d x).saturation = .none := by
  have houtput : ∀ a b, (target : Int) + outputOf p a b = target := fun a b => by
    simp [outputOf, outputTerm_eq, hkp, hki]
  have hacts : stepActs p x target = false := by
    simp only [stepActs, hstep, Bool.and_eq_false_iff, decide_eq_false_iff_not]
    right
    omega
  have hlimited : limited p x target = target := by rw [limited, hacts, if_neg Bool.false_ne_true]
  have hclamp : boundClamp floor ceiling capacity target = target := clampInt_of_mem (by omega) (by omega)
  rw [runController, startStage_eq]
  simp only [houtput, hlimited, hclamp, hacts, Int.toNat_natCast, true_and]
  rw [saturationOf, if_neg Bool.false_ne_true, if_neg (lt_irrefl _), if_neg (lt_irrefl _)]

/-- Settles O12, by the bounds of each target, and the division of the surplus that the floors leave. -/
theorem targetsFitTheCapacity : Obligations.TargetsFitTheCapacity := by
  unfold Obligations.TargetsFitTheCapacity
  intro s y rest hlive h hen hup hfloors hceilings
  set u := s.withRate { s.rate with queue := rest } with hu
  have active : ∀ f ∈ activeFlows s y, Active s y f := fun f hf => of_decide_eq_true (List.mem_filter.1 hf).2
  have stored : ∀ f ∈ activeFlows s y, ((u.compute y).rflow f).ctl.lastTarget = targetOf s y f := fun f hf => by
    rw [State.compute_rflow]
    exact State.computed_lastTarget (s := u) (active f hf)
  have within : ∀ f ∈ activeFlows s y,
      (s.rflow f).view.floor ≤ targetOf s y f ∧ targetOf s y f ≤ (s.rflow f).view.ceiling := fun f hf =>
    ⟨Nat.le_min.2 ⟨Nat.le_add_right _ _, hceilings f hf⟩, Nat.min_le_right _ _⟩
  have sum := sum_targets_le hfloors
  refine ⟨_, exec_tallyComputation_of_up hlive h hen hup, fun f hf => ?_, ?_, fun f hf hfrozen hkp hki hstep hcells => ?_⟩
  · rw [stored f hf]
    exact within f hf
  · rw [List.map_congr_left stored]
    exact sum
  · have hcapacity : targetOf s y f ≤ Table.get s.rate.capacity y.port :=
      Nat.le_trans (List.single_le_sum (fun _ _ => Nat.zero_le _) _ (List.mem_map_of_mem hf)) sum
    rw [State.compute_rflow]
    have run := State.computed_of_active (s := u) (active f hf) hfrozen
    rw [run]
    exact runController_transparent _ hkp hki hstep (within f hf).1 (within f hf).2 hcapacity hcells

end Sys2Proof.Machine
end

section
/-! PROOFS. The fabric link: its state and counts, and the records that it routes; O16 to O18. -/

namespace Sys2Proof.Machine

open Sys2Proof.Safety

variable {s t u : State} {c : Instr} {e : TargetPort} {f : Flow} {r : LinkRecord} {handle : State → State} {A : List Part}

/-! ## Records that fail their check (R169, R170) -/

theorem linkLost_linkDown (s : State) : LinkLost s s.linkDown :=
  ⟨rfl, rfl, rfl, s.linkDown_waiting, s.linkDown_mon, rfl⟩

theorem exec_recordCheckFailure (hlive : Live s) (hlock : s.link.laneLock = true) (hr : checkPasses r = false) :
    exec (.recordCheckFailure r) s = .next s.failedRecord := by
  show execRecordCheckFailure r s = _
  rw [execRecordCheckFailure, State.arrives, s.live_of_high _ hlive, hlock, hr]
  rfl

/-- The fault of a record that fails its check. -/
def State.linkCheck (s : State) : State := s.report .link { kind := .linkCheck, flow := none, port := none }

theorem State.failedRecord_of_up (hup : s.link.up = true) :
    s.failedRecord = if 7 ≤ s.link.failCount then s.linkCheck.linkDown
      else s.linkCheck.withLink { s.linkCheck.link with failCount := s.link.failCount + 1 } := by
  rw [State.failedRecord, if_pos hup]
  exact if_congr (Nat.succ_le_succ_iff (a := 7)) rfl rfl

theorem State.failedRecord_of_down (hdown : s.link.up = false) :
    s.failedRecord = s.withLink { s.link with goodCount := 0 } := by
  rw [State.failedRecord, if_neg (by rw [hdown]; exact Bool.false_ne_true)]

theorem exec_laneLockLoss (hlive : Live s) :
    exec .laneLockLoss s = .next (if s.link.up then (s.withLink { s.link with laneLock := false }).linkDown
      else s.withLink { s.link with laneLock := false, goodCount := 0 }) := by
  show execLaneLockLoss s = _
  rw [execLaneLockLoss, if_neg (by rw [hlive]; exact Bool.false_ne_true)]
  rfl

/-! ## Records that pass their check -/

/-- A well-formed record row runs its handler. -/
theorem exec_of_handler (hc : handlerOf c = some handle) (hw : c.wellFormed = true) (hlive : Live s)
    (hlock : s.link.laneLock = true) : exec c s = .next (s.passedRecord handle) := by
  have arrives : ∀ is : Bool, is = true → s.arrives is (fun s => s.passedRecord handle) = .next (s.passedRecord handle) := by
    intro is his
    rw [State.arrives, s.live_of_high _ hlive, hlock, his, Bool.and_self, if_pos rfl]
  cases c <;> cases hc <;> exact arrives _ hw

theorem handler_up (hc : handlerOf c = some handle) (u : State) :
    (handle u).link.up = u.link.up ∧ (handle u).link.failCount = u.link.failCount ∧
      (handle u).link.goodCount = u.link.goodCount := by
  have h := wireOf_handler hc u
  exact ⟨congrArg Wire.up h, congrArg Wire.failCount h, congrArg Wire.goodCount h⟩

/-- The link UP, as it is when a record is handled. -/
def State.linkedUp (s : State) : State :=
  s.withLink { s.link with up := true, failCount := 0, goodCount := if s.link.up then s.link.goodCount else 0 }

theorem State.passedRecord_of_handles (h : Handles s) : s.passedRecord handle = handle s.linkedUp := by
  obtain ⟨-, -, hup⟩ := h
  obtain ⟨hup, hp⟩ | ⟨hdown, -, hp⟩ | ⟨hdown, hcount, -⟩ := s.passedRecord_cases handle
  · rw [hp, State.linkedUp, hup, if_pos rfl, ← hup]
  · obtain hup | ⟨-, htaken⟩ := hup
    · rw [hup] at hdown
      cases hdown
    · rw [hp, s.takeLosses_of_taken htaken, State.linkedUp, hdown, if_neg Bool.false_ne_true]
  · obtain hup | ⟨hfour, -⟩ := hup
    · rw [hup] at hdown
      cases hdown
    · omega

theorem exec_of_handles (hc : handlerOf c = some handle) (hw : c.wellFormed = true) (h : Handles s) :
    exec c s = .next (handle s.linkedUp) := by
  rw [exec_of_handler hc hw h.1 h.2.1, State.passedRecord_of_handles h]

theorem linkUpAfter_handler (hc : handlerOf c = some handle) (s : State) : LinkUpAfter s (handle s.linkedUp) := by
  obtain ⟨hup, hfail, hgood⟩ := handler_up hc s.linkedUp
  exact ⟨hup, hfail, hgood⟩

theorem changesOnly_linkedUp (s : State) (h : .linkState ∈ A) : changesOnly s s.linkedUp A :=
  changesOnly_withLink (state := fun hn => absurd h hn)

theorem linkedUp_reported (s : State) (x : FaultReport) :
    (s.linkedUp.report .link x).link.reports = s.link.reports ++ [x] ∧
      changesOnly s (s.linkedUp.report .link x) [.linkState, .linkReports] :=
  ⟨rfl, (changesOnly_linkedUp s (by simp)).trans (changesOnly_reportLink (by simp))⟩

/-! ## What the monitors still have to take (R117) -/

theorem takesLosses_append {l l' : List Instr} (h : TakesLosses l s t) (h' : TakesLosses l' t u) : TakesLosses (l ++ l') s u := by
  induction l generalizing s with
  | nil =>
    obtain rfl : t = s := h
    exact h'
  | cons i l ih =>
    obtain ⟨e, v, hi, hmem, hexec, hrest⟩ := h
    exact ⟨e, v, hi, hmem, hexec, ih hrest⟩

/-- The row at which a monitor takes a message. -/
def rowOfMessage (e : TargetPort) : MonitorMsg → Instr
  | .status _ _ => .tstat e
  | .linkLoss => .linkLossRequest e

theorem exec_rowOfMessage {m : MonitorMsg} {rest : List MonitorMsg} (hlive : Live s) (h : (s.mon e).inbox = m :: rest) :
    exec (rowOfMessage e m) s = .next ((s.popMonitor e rest).takeMessage e m) := by
  cases m with
  | status up level => exact exec_tstat hlive h
  | linkLoss => exact exec_linkLossRequest hlive h

theorem takesLosses_takeThroughLoss (e : TargetPort) (l : List MonitorMsg) (hlive : Live s) (h : (s.mon e).inbox = l) :
    ∃ rows, TakesLosses rows s (State.takeThroughLoss e l s) := by
  induction l generalizing s with
  | nil => exact ⟨[], rfl⟩
  | cons m rest ih =>
    rw [State.takeThroughLoss]
    split
    · next hloss =>
      obtain ⟨x, a, hinbox, htake⟩ := (s.popMonitor e rest).takeMessage_eq e m
      have hlive' : Live ((s.popMonitor e rest).takeMessage e m) := by
        rw [htake]
        exact hlive
      have hrest : (((s.popMonitor e rest).takeMessage e m).mon e).inbox = rest := by
        rw [htake, State.setArb_mon, State.setMon_mon_self, hinbox, State.popMonitor, State.setMon_mon_self]
      obtain ⟨rows, hrows⟩ := ih hlive' hrest
      refine ⟨rowOfMessage e m :: rows, e, _, ?_, ?_, exec_rowOfMessage hlive h, hrows⟩
      · cases m
        · exact .inl rfl
        · exact .inr rfl
      · rw [h]
        exact List.contains_iff_mem.1 hloss
    · exact ⟨[], rfl⟩

theorem takesLosses_takeLosses (hlive : Live s) : ∃ rows, TakesLosses rows s s.takeLosses := by
  have fold : ∀ (l : List TargetPort) (s : State), Live s →
      ∃ rows, TakesLosses rows s (l.foldl (fun s e => State.takeThroughLoss e (s.mon e).inbox s) s) := by
    intro l
    induction l with
    | nil => exact fun s _ => ⟨[], rfl⟩
    | cons e l ih =>
      intro s hlive
      obtain ⟨rows, hrows⟩ := takesLosses_takeThroughLoss e _ hlive rfl
      obtain ⟨x, a, -, htake⟩ := s.takeThroughLoss_eq e _ rfl
      obtain ⟨rows', hrows'⟩ := ih (State.takeThroughLoss e (s.mon e).inbox s) (by rw [htake]; exact hlive)
      exact ⟨rows ++ rows', takesLosses_append hrows hrows'⟩
  exact fold _ s hlive

/-! ## The link state (R170) -/

theorem handlerOf_of_arrival (h : c = .backlog r ∨ c = .done r ∨ c = .tstatRoute r ∨ c = .unknownKindRecord r) :
    ∃ handle, handlerOf c = some handle := by
  rcases h with rfl | rfl | rfl | rfl <;> exact ⟨_, rfl⟩

/-- The fourth good record in a row, and the same record in the state after the monitors have taken their requests. -/
theorem State.passedRecord_of_fourth (hdown : s.link.up = false) (hfour : 3 ≤ s.link.goodCount) :
    s.passedRecord handle =
      handle (s.takeLosses.withLink { s.takeLosses.link with up := true, failCount := 0, goodCount := 0 }) := by
  obtain ⟨hup, -⟩ | ⟨-, -, hp⟩ | ⟨-, hcount, -⟩ := s.passedRecord_cases handle
  · rw [hdown] at hup
    cases hup
  · exact hp
  · omega

/-- Settles O16, by the state of the link and the count at its limit. -/
theorem linkStateCounts : Obligations.LinkStateCounts := by
  unfold Obligations.LinkStateCounts
  intro s hlive
  have checked : changesOnly s s.linkCheck [.linkReports] := changesOnly_reportLink (by simp)
  refine ⟨⟨_, rfl, rfl, changesOnly_withLink (laneLock := by simp)⟩,
    ⟨_, exec_laneLockLoss hlive, ?_, fun hup => ?_, fun hdown => ?_⟩,
    fun r hlock hr => ⟨_, exec_recordCheckFailure hlive hlock hr, fun hup => ?_, fun hdown => ?_⟩,
    fun r c hlock hdown hw hc => ?_⟩
  · split <;> rfl
  · rw [if_pos hup]
    exact ⟨linkLost_linkDown _, (changesOnly_withLink (laneLock := by simp)).trans
      (changesOnly_linkDown (by simp) (by simp) (by simp) (by simp))⟩
  · rw [if_neg (by rw [hdown]; exact Bool.false_ne_true)]
    exact ⟨hdown, rfl, rfl, changesOnly_withLink (state := by simp) (laneLock := by simp)⟩
  · rw [State.failedRecord_of_up hup]
    refine ⟨by split <;> rfl, fun hlow => ?_, fun hhigh => ?_⟩
    · rw [if_neg (by omega)]
      exact ⟨hup, rfl, rfl, (checked.mono (by simp)).trans (changesOnly_withLink (state := by simp))⟩
    · rw [if_pos hhigh]
      exact ⟨linkLost_linkDown s.linkCheck, (checked.mono (by simp)).trans
        (changesOnly_linkDown (by simp) (by simp) (by simp) (by simp))⟩
  · rw [State.failedRecord_of_down hdown]
    exact ⟨hdown, rfl, rfl, changesOnly_withLink (state := by simp)⟩
  · obtain ⟨handle, hhandle⟩ := handlerOf_of_arrival hc
    have row := exec_of_handler hhandle hw hlive hlock
    refine ⟨fun hcount => ?_, fun hfour => ?_⟩
    · obtain ⟨hup, -⟩ | ⟨-, hfour, -⟩ | ⟨-, -, hp⟩ := s.passedRecord_cases handle
      · rw [hdown] at hup
        cases hup
      · omega
      · rw [hp] at row
        exact ⟨_, row, rfl, hdown, rfl, changesOnly_withLink (state := by simp)⟩
    · obtain ⟨rows, hrows⟩ := takesLosses_takeLosses hlive
      obtain ⟨ms, as, htake, htaken⟩ := s.takeLosses_eq
      have link : s.takeLosses.link = s.link := s.takeLosses_link
      have again : exec c s.takeLosses = .next (s.takeLosses.passedRecord handle) :=
        exec_of_handler hhandle hw (by rw [Live, State.takeLosses_resetLow]; exact hlive) (by rw [link]; exact hlock)
      rw [State.passedRecord_of_fourth hdown hfour] at row
      rw [State.passedRecord_of_fourth (by rw [link]; exact hdown) (by rw [link]; exact hfour),
        s.takeLosses.takeLosses_of_taken htaken] at again
      obtain ⟨hup, -, hgood⟩ := handler_up hhandle
        (s.takeLosses.withLink { s.takeLosses.link with up := true, failCount := 0, goodCount := 0 })
      exact ⟨rows, s.takeLosses, _, hrows, htaken, by rw [link]; exact hdown, by rw [link], row, again, hup, hgood⟩

/-! ## Records that are routed (R88, R97, R107) -/

/-- Settles O17, by the kind of the record. -/
theorem handledRecordsAreRouted : Obligations.HandledRecordsAreRouted := by
  unfold Obligations.HandledRecordsAreRouted
  intro s r h hr
  have kind : ∀ k, inboundKind r = k → (checkPasses r && inboundKind r == k) = true := fun k hk => by
    rw [hr, hk, Bool.true_and, beq_self_eq_true]
  refine ⟨fun h1 h2 h3 => ?_, fun h2 => ?_, fun h3 => ?_⟩
  · have hunknown : inboundKind r = .unknown := (if_neg h1).trans ((if_neg h2).trans (if_neg h3))
    have row := exec_of_handles (c := .unknownKindRecord r) rfl (kind _ hunknown) h
    exact ⟨_, row, linkUpAfter_handler (c := .unknownKindRecord r) rfl s, linkedUp_reported s _⟩
  · have hdone : inboundKind r = .done := by rw [inboundKind, h2]; rfl
    have row := exec_of_handles (c := .done r) rfl (kind _ hdone) h
    refine ⟨_, row, linkUpAfter_handler (c := .done r) rfl s, fun hmany => ?_, fun hfew => ?_⟩
    · rw [State.takeDone, if_pos (by exact hmany)]
      exact linkedUp_reported s _
    · rw [State.takeDone, if_neg (by exact Nat.not_lt.2 hfew)]
      exact ⟨State.setArb_arb_self _ _ _, (changesOnly_linkedUp s (by simp)).trans (changesOnly_setArb (by simp))⟩
  · have htstat : inboundKind r = .tstat := by rw [inboundKind, h3]; rfl
    have row := exec_of_handles (c := .tstatRoute r) rfl (kind _ htstat) h
    exact ⟨_, row, linkUpAfter_handler (c := .tstatRoute r) rfl s, State.setMon_mon_self _ _ _,
      (changesOnly_linkedUp s (by simp)).trans (changesOnly_setMon (by simp))⟩

/-! ## BACKLOG records (R89 to R93) -/

section
variable {x : BacklogFields} {h : HostPort}

theorem indexOf_of_lt {n v : Nat} (i : Fin n) (h : i.val = v) : indexOf n v = some i := by
  subst h
  exact dif_pos i.isLt

theorem State.takeBacklog_of_outOfRange (hx : 24 ≤ x.host) : s.takeBacklog x = s.badRecord := by
  have hindex : indexOf 24 x.host = none := dif_neg (Nat.not_lt.2 hx)
  simp only [State.takeBacklog, hindex]

theorem State.takeBacklog_of_untagged (hx : h.val = x.host) (ht : (Table.get s.link.hosts h).tagged = true)
    (hv : x.tagValid = false) :
    s.takeBacklog x = s.report .link { kind := .tagMissing, flow := none, port := some x.port } := by
  have hflow : decodeFlow (Table.get s.link.hosts h) h x.tag x.tagValid = none := by simp [decodeFlow, ht, hv]
  simp only [State.takeBacklog, indexOf_of_lt h hx, hflow]

/-- The flow of a record whose host port and tag decode to one. -/
theorem State.takeBacklog_of_flow (hx : h.val = x.host)
    (ht : ((Table.get s.link.hosts h).tagged = true ∧ x.tagValid = true) ∨ (Table.get s.link.hosts h).tagged = false)
    (hf : f.val = h.val * 4 + (if (Table.get s.link.hosts h).tagged then x.tag.val else 0)) :
    s.takeBacklog x =
      if s.isOff f then s.report .link { kind := .unboundReport, flow := some f, port := some x.port }
      else if Table.get s.link.flowPort f ≠ x.port then
        s.report .link { kind := .misroute, flow := some f, port := some x.port }
      else s.passBacklog f (Table.get s.link.hosts h).limit x := by
  have hflow : decodeFlow (Table.get s.link.hosts h) h x.tag x.tagValid = some f := by
    rcases ht with ⟨ht, hv⟩ | ht
    · rw [decodeFlow, if_pos ht, if_pos hv]
      rw [if_pos ht] at hf
      exact congrArg some (Fin.ext hf.symm)
    · rw [decodeFlow, if_neg (by rw [ht]; exact Bool.false_ne_true)]
      rw [if_neg (by rw [ht]; exact Bool.false_ne_true)] at hf
      exact congrArg some (Fin.ext hf.symm)
  simp only [State.takeBacklog, indexOf_of_lt h hx, hflow]

end

/-- Settles O18, by the checks in their order. -/
theorem backlogChecksInOrder : Obligations.BacklogChecksInOrder := by
  unfold Obligations.BacklogChecksInOrder
  intro s r hh hr h1 x faulty passed
  have hbacklog : (Instr.backlog r).wellFormed = true := by
    have hkind : inboundKind r = .backlog := if_pos h1
    show (checkPasses r && inboundKind r == .backlog) = true
    rw [hr, hkind]
    rfl
  have faulted : ∀ k f e, faulty (s.linkedUp.report .link { kind := k, flow := f, port := e }) k f e := fun k f e =>
    linkedUp_reported s _
  refine ⟨_, exec_of_handles (c := .backlog r) rfl hbacklog hh, linkUpAfter_handler (c := .backlog r) rfl s, fun hhost => ?_,
    fun h hx => ⟨fun ht hv => ?_, fun ht f hf => ?_⟩⟩
  · rw [State.takeBacklog_of_outOfRange hhost]
    exact faulted _ _ _
  · rw [State.takeBacklog_of_untagged (s := s.linkedUp) hx ht hv]
    exact faulted _ _ _
  · rw [State.takeBacklog_of_flow (s := s.linkedUp) hx ht hf]
    have off : s.linkedUp.isOff f = true ↔ Off s f := s.isOff_iff f
    have port : Table.get s.linkedUp.link.flowPort f = Table.get s.link.flowPort f := rfl
    refine ⟨fun hoff => ?_, fun hon hport => ?_, fun hon hport => ?_⟩
    · rw [if_pos (off.2 hoff)]
      exact faulted _ _ _
    · rw [if_neg fun h => hon (off.1 h), if_pos (by rw [port]; exact hport)]
      exact faulted _ _ _
    · rw [if_neg fun h => hon (off.1 h), if_neg (by rw [port]; exact fun h => h hport), State.passBacklog]
      refine ⟨fun hover => ?_, fun hfit => ?_⟩
      · rw [if_pos (by exact hover)]
        exact ⟨rfl, State.setArb_arb_self _ _ _, ((changesOnly_linkedUp s (by simp)).trans
          (changesOnly_reportLink (by simp))).trans (changesOnly_setArb (by simp))⟩
      · rw [if_neg (by exact Nat.not_lt.2 hfit)]
        exact ⟨State.setArb_arb_self _ _ _, (changesOnly_linkedUp s (by simp)).trans (changesOnly_setArb (by simp))⟩

end Sys2Proof.Machine
end

section
/-! PROOFS. Link records read back as the fields they are built from, and the check finds a flipped bit: O52. -/

namespace Sys2Proof.Machine

open Sys2Proof.Safety

variable {s t u : State} {e : TargetPort} {f : Flow} {n : Nat}

/-! ## Fields of a byte -/

theorem byteOf_toNat_of_lt (h : n < 256) : (byteOf n).toNat = n := by
  rw [byteOf_toNat, Nat.mod_eq_of_lt h]

theorem byteOf_getLsbD (n i : Nat) (hi : i < 8) : (byteOf n).getLsbD i = n.testBit i := by
  rw [byteOf, BitVec.getLsbD_ofNat, decide_eq_true hi, Bool.true_and]

theorem testBit_zero_of_mark (n : Nat) (b : Bool) : (n * 2 + if b then 1 else 0).testBit 0 = b := by
  rw [Nat.testBit_zero]
  cases b <;> simp

/-! ## Records built from fields (R89, R97, R107) -/

theorem be16_of_cells (k : Fin 65536) : be16 (byteOf (k.val / 256)) (byteOf k.val) = k.val := by
  rw [be16_byteOf, Nat.mod_eq_of_lt k.isLt]

/-- A tag stands in the low 12 bits of its field. -/
theorem tagOf_tagNumber (x : GrantTag) (high : Nat) : tagOf (high * 4096 + tagNumber x) = x := by
  have hp := x.port.isLt
  have hs := x.slot.isLt
  have hg := x.generation.isLt
  have hport : (high * 4096 + tagNumber x) / 512 % 8 = x.port.val := by rw [tagNumber]; omega
  have hslot : (high * 4096 + tagNumber x) / 64 % 8 = x.slot.val := by rw [tagNumber]; omega
  have hgen : BitVec.ofNat 6 (high * 4096 + tagNumber x) = x.generation := by
    refine BitVec.eq_of_toNat_eq ?_
    rw [BitVec.toNat_ofNat, tagNumber]
    omega
  simp only [tagOf, hport, hslot, hgen]

theorem be16_of_tag (x : GrantTag) (high : Fin 16) :
    be16 (byteOf (high.val * 16 + tagNumber x / 256)) (byteOf (tagNumber x)) = high.val * 4096 + tagNumber x := by
  have hx := tagNumber_lt x
  have hh := high.isLt
  rw [be16, byteOf_toNat, byteOf_toNat]
  omega

theorem doneFields_withCheck (x : GrantTag) (k : Fin 65536) (mark : Bool) (high : Fin 16) (m : Fin 128) (unused : Byte) :
    doneFields (withCheck 2 (byteOf (high.val * 16 + tagNumber x / 256)) (byteOf (tagNumber x)) (byteOf (k.val / 256))
      (byteOf k.val) (byteOf (m.val * 2 + if mark then 1 else 0)) unused) = { tag := x, cells := k.val, endMark := mark } := by
  show DoneFields.mk (tagOf (be16 (byteOf (high.val * 16 + tagNumber x / 256)) (byteOf (tagNumber x))))
    (be16 (byteOf (k.val / 256)) (byteOf k.val)) ((byteOf (m.val * 2 + if mark then 1 else 0)).getLsbD 0) = _
  rw [be16_of_tag, tagOf_tagNumber, be16_of_cells, byteOf_getLsbD _ _ (by omega), testBit_zero_of_mark]

theorem tstatFields_withCheck (e : TargetPort) (up : Bool) (level : Fin 4) (i : Fin 32) (k : Fin 128) (m : Fin 64)
    (u v w : Byte) :
    tstatFields (withCheck 3 (byteOf (i.val * 8 + e.val)) (byteOf (k.val * 2 + if up then 1 else 0))
      (byteOf (m.val * 4 + level.val)) u v w) = { port := e, up := up, level := level.val } := by
  have he := e.isLt
  have hi := i.isLt
  have hl := level.isLt
  have hm := m.isLt
  have hport : (byteOf (i.val * 8 + e.val)).toNat % 8 = e.val := by rw [byteOf_toNat]; omega
  have hlevel : (byteOf (m.val * 4 + level.val)).toNat % 4 = level.val := by rw [byteOf_toNat]; omega
  show ({ port := ⟨(byteOf _).toNat % 8, _⟩, up := (byteOf _).getLsbD 0, level := (byteOf _).toNat % 4 } : TstatFields) = _
  simp only [hport, hlevel, byteOf_getLsbD _ _ (by omega : 0 < 8), testBit_zero_of_mark]

theorem backlogFields_withCheck (host : Fin 32) (tag : Fin 4) (valid flush : Bool) (e : TargetPort) (k : Fin 65536)
    (i : Fin 16) (u v : Byte) :
    backlogFields (withCheck 1 (byteOf (host.val * 8 + tag.val * 2 + if valid then 1 else 0))
      (byteOf ((if flush then 128 else 0) + i.val * 8 + e.val)) (byteOf (k.val / 256)) (byteOf k.val) u v) =
    { host := host.val, tag := tag, tagValid := valid, port := e, cells := k.val, flush := flush } := by
  have hh := host.isLt
  have ht := tag.isLt
  have he := e.isLt
  have hi := i.isLt
  set x := host.val * 8 + tag.val * 2 + if valid then 1 else 0 with hx
  set y := (if flush then 128 else 0) + i.val * 8 + e.val with hy
  have hv : (if valid then 1 else 0) ≤ 1 := by cases valid <;> decide
  have hf : (if flush then 128 else 0) % 8 = 0 := by cases flush <;> rfl
  have hhost : (byteOf x).toNat / 8 = host.val := by rw [byteOf_toNat_of_lt (by omega)]; omega
  have htag : (byteOf x).toNat / 2 % 4 = tag.val := by rw [byteOf_toNat_of_lt (by omega)]; omega
  have hport : (byteOf y).toNat % 8 = e.val := by
    rw [byteOf_toNat]
    omega
  have hvalid : (byteOf x).getLsbD 0 = valid := by
    rw [byteOf_getLsbD _ _ (by omega), hx, show host.val * 8 + tag.val * 2 = (host.val * 4 + tag.val) * 2 by omega,
      testBit_zero_of_mark]
  have hflush : (byteOf y).getLsbD 7 = flush := by
    rw [byteOf_getLsbD _ _ (by omega), Nat.testBit_eq_decide_div_mod_eq, hy]
    cases flush <;> simp <;> omega
  show BacklogFields.mk ((byteOf x).toNat / 8) ⟨(byteOf x).toNat / 2 % 4, _⟩ ((byteOf x).getLsbD 0)
    ⟨(byteOf y).toNat % 8, _⟩ (be16 (byteOf (k.val / 256)) (byteOf k.val)) ((byteOf y).getLsbD 7) = _
  simp only [hhost, htag, hport, hvalid, hflush, be16_of_cells]

/-! ## The check (R169) -/

/-- The shift of the check register undone. -/
def crcUnshift (reg : Byte) : Byte :=
  if reg.getLsbD 0 then ((reg ^^^ 7#8) >>> 1) ||| 128#8 else reg >>> 1

theorem crcUnshift_crcShift : Function.LeftInverse crcUnshift crcShift := by
  unfold Function.LeftInverse
  decide

theorem crcByte_injective (b : Byte) : Function.Injective fun reg => crcByte reg b := fun _ _ h =>
  (BitVec.xor_left_inj b).1 (crcUnshift_crcShift.injective.iterate 8 h)

theorem crcByte_ne (reg : Byte) {a b : Byte} (h : a ≠ b) : crcByte reg a ≠ crcByte reg b := fun heq =>
  h ((BitVec.xor_right_inj reg).1 (crcUnshift_crcShift.injective.iterate 8 heq))

theorem foldl_crcByte_injective (l : List Byte) : Function.Injective fun reg => l.foldl crcByte reg := by
  induction l with
  | nil => exact fun _ _ h => h
  | cons b l ih => exact fun x y h => crcByte_injective b (ih h)

/-- Sequences that differ in one byte have different checks. -/
theorem crc8_ne (before after : List Byte) {a b : Byte} (h : a ≠ b) :
    crc8 (before ++ a :: after) ≠ crc8 (before ++ b :: after) := by
  rw [crc8, crc8, List.foldl_append, List.foldl_append, List.foldl_cons, List.foldl_cons]
  exact fun heq => crcByte_ne _ h (foldl_crcByte_injective after heq)

theorem checkPasses_eq (r : LinkRecord) : checkPasses r = (crc8 (r.toList.take 7) == r[7]) := by
  have bytes : [r[0], r[1], r[2], r[3], r[4], r[5], r[6]] = r.toList.take 7 := by
    refine List.ext_getElem (by simp) fun i hi _ => ?_
    have hi : i < 7 := hi
    interval_cases i <;> simp
  rw [checkPasses, bytes]

theorem flip_ne (x : Byte) (b : Fin 8) : x ^^^ (1#8 <<< b.val) ≠ x := by
  have hbit : ∀ b : Fin 8, 1#8 <<< b.val ≠ 0#8 := by decide
  intro h
  have := congrArg (x ^^^ ·) h
  exact hbit b (by simpa [← BitVec.xor_assoc] using this)

theorem crc8_set_ne {l : List Byte} {i : Nat} (hi : i < l.length) {x : Byte} (hx : x ≠ l[i]) :
    crc8 (l.set i x) ≠ crc8 l := by
  have hl : l = l.take i ++ l[i] :: l.drop (i + 1) := by rw [List.getElem_cons_drop, List.take_append_drop]
  rw [List.set_eq_take_append_cons_drop, if_pos hi]
  conv => rhs; rw [hl]
  exact crc8_ne _ _ hx

/-- A record that differs from one that passes in one byte does not pass. -/
theorem checkPasses_set {r : LinkRecord} {i : Nat} (hi : i < 8) {x : Byte} (hx : x ≠ r[i]) (hr : checkPasses r = true) :
    checkPasses (r.set i x hi) = false := by
  rw [checkPasses_eq, beq_iff_eq] at hr
  rw [checkPasses_eq, beq_eq_false_iff_ne, Vector.toList_set, List.take_set]
  by_cases h7 : i = 7
  · subst h7
    rw [Vector.getElem_set_self, List.set_eq_of_length_le (by simp), hr]
    exact hx.symm
  · rw [Vector.getElem_set_ne _ _ h7, ← hr]
    refine crc8_set_ne (by simp; omega) ?_
    simpa using hx

/-- Settles O52, by the fields of a record whose check byte is set last. -/
theorem linkRecordsReadBack : Obligations.LinkRecordsReadBack := by
  refine ⟨fun tag k mark high m unused => ⟨checkPasses_withCheck _ _ _ _ _ _ _, doneFields_withCheck tag k mark high m unused⟩,
    fun e up level i k m u v w => ⟨checkPasses_withCheck _ _ _ _ _ _ _, tstatFields_withCheck e up level i k m u v w⟩,
    fun host tag valid flush e n i u v =>
      ⟨checkPasses_withCheck _ _ _ _ _ _ _, backlogFields_withCheck host tag valid flush e n i u v⟩,
    fun r i b hr => checkPasses_set i.isLt (flip_ne _ b) hr⟩

end Sys2Proof.Machine
end

section
/-! PROOFS. The Epoch Timer, the power-on reset and the state it leads to: O4 to O6 and O60. -/

namespace Sys2Proof.Machine

open Sys2Proof.Safety

variable {s t u : State} {e : TargetPort} {f : Flow} {n : Nat}

/-! ## The Epoch Timer (R25, R26) -/

/-- Settles O6, by the timer that expires and the count at each arbiter. -/
theorem epochExpiryAdvancesTimer : Obligations.EpochExpiryAdvancesTimer := by
  unfold Obligations.EpochExpiryAdvancesTimer
  intro s hlive
  have row : exec .epochExpiry s = .next ((s.withTimer s.timer.expire).withArbiters
      (Table.tab fun e => { s.arb e with expiries := (s.arb e).expiries + 1 })) := by
    show execEpochExpiry s = _
    rw [execEpochExpiry, s.live_of_high _ hlive]
  refine ⟨_, row, ?_, fun p hp => ?_, fun hnone => ?_, rfl, fun e => ?_, changesOnly_of_exec row nofun⟩
  · show (s.timer.epoch + 1).toNat = _
    rw [BitVec.toNat_add]
    rfl
  · show s.timer.pendingPeriod.getD s.timer.period = p
    rw [hp, Option.getD_some]
  · show s.timer.pendingPeriod.getD s.timer.period = s.timer.period
    rw [hnone, Option.getD_none]
  · rw [State.withArbiters_arb, Table.get_tab]

/-! ## The power-on reset (R133) -/

theorem State.powerOn_mgmt (s : State) (p : MPort) : s.powerOn.mgmt p = powerOnMgmt := PerPort.get_both _ p

theorem State.powerOn_arb (s : State) (e : TargetPort) : s.powerOn.arb e = powerOnArbiter := Table.get_const _ e

theorem State.powerOn_mon (s : State) (e : TargetPort) : s.powerOn.mon e = powerOnMonitor := Table.get_const _ e

theorem State.powerOn_flow (s : State) (f : Flow) : s.powerOn.flow f = powerOnArbiterFlow := Table.get_const _ f

theorem State.powerOn_rflow (s : State) (f : Flow) :
    s.powerOn.rflow f = { view := rateViewOf powerOnFlowConfig, ctl := powerOnController } := Table.get_const _ f

theorem State.powerOn_pendingCauses (s : State) (p : MPort) : s.powerOn.unit.pending.get p = noCauses := PerPort.get_both _ p

theorem State.powerOn_mask (s : State) (p : MPort) : s.powerOn.unit.mask.get p = allCauses := PerPort.get_both _ p

theorem State.powerOn_table (s : State) (i : FaultIx) : Table.get s.powerOn.unit.table i = none := Table.get_const _ i

theorem State.powerOn_eventLine (s : State) (p : MPort) : s.powerOn.eventLine p = false := by
  rw [← Bool.not_eq_true, State.eventLine_iff, State.powerOn_pendingCauses]
  rintro ⟨-, k, hk, -⟩
  rw [noCauses_has] at hk
  cases hk

/-- Settles O4, block by block of the power-on state. -/
theorem powerOnResetValues : Obligations.PowerOnResetValues := by
  unfold Obligations.PowerOnResetValues
  intro s
  refine ⟨s.powerOn, rfl, rfl, rfl, rfl, rfl, ⟨rfl, rfl, rfl, rfl, rfl, rfl, rfl⟩,
    fun h => ⟨Table.get_const _ h, Table.get_const _ h⟩,
    fun f => ⟨Table.get_const _ f, s.powerOn_rflow f, s.powerOn_flow f, Table.get_const _ f⟩, fun p => Table.get_const _ p,
    fun e => ?_, fun e => ?_, rfl, rfl, rfl, fun p => ?_, rfl, rfl, rfl, s.powerOn_table, rfl⟩
  · rw [State.powerOn_arb]
    exact ⟨Table.get_const _ e, s.powerOn_mon e, fun n => Table.get_const _ n, fun k => Table.get_const _ k, rfl, rfl, rfl,
      Table.get_const _ e, Table.get_const _ e⟩
  · rw [State.powerOn_arb]
    exact ⟨rfl, rfl, rfl, rfl, rfl, rfl, rfl⟩
  · rw [State.powerOn_mgmt]
    exact ⟨rfl, rfl, rfl, rfl, rfl, rfl, PerPort.get_both _ p, s.powerOn_pendingCauses p, s.powerOn_mask p, s.powerOn_eventLine p⟩

theorem exec_resetRelease (s : State) (level : Bool) :
    exec (.resetRelease level) s = .next (if s.resetLow then { s with resetLow := false, solo := level } else s) := rfl

/-- A reset released with SOLO low, lane lock and no command that waits. -/
theorem State.powerOn_released (hlock : s.link.laneLock = true) (hpending : s.pending = []) :
    { s.powerOn with resetLow := false, solo := false } = State.reset := by
  rw [State.powerOn, hlock, hpending]
  rfl

/-- Settles O5, by the level of the line. -/
theorem resetReleaseSamplesSolo : Obligations.ResetReleaseSamplesSolo := by
  unfold Obligations.ResetReleaseSamplesSolo
  refine fun s level => ⟨fun hlow => ?_, fun hhigh => ?_, fun hlock hpending => ⟨s.powerOn, rfl, ?_⟩⟩
  · have row := exec_resetRelease s level
    rw [hlow, if_pos rfl] at row
    exact ⟨_, row, rfl, rfl, changesOnly_of_exec row nofun⟩
  · rw [exec_resetRelease, hhigh, if_neg Bool.false_ne_true]
  · rw [exec_resetRelease, show s.powerOn.resetLow = true from rfl, if_pos rfl, State.powerOn_released hlock hpending]

/-! ## The reset state (R133) -/

/-- Power-on values with the rise of RESET still to come. -/
def unreleased : State := State.powerOn { State.reset with pending := [.resetRelease false] }

/-- The reset state is a step away from the power-on values, so the step lemmas carry every invariant over. -/
theorem step_unreleased : step unreleased = .next State.reset := by
  have released : { ({ State.reset with pending := [] } : State).powerOn with resetLow := false, solo := false } = State.reset :=
    State.powerOn_released rfl rfl
  exact congrArg Host.Outcome.next released

/-- Settles O60, by the power-on state, which meets the invariants, and the rise of RESET, which keeps them as every step does. -/
theorem resetMeetsEveryInvariant : Obligations.ResetMeetsEveryInvariant := by
  have configuration := configurationOk_powerOn { State.reset with pending := [.resetRelease false] }
  have views := viewsOk_powerOn { State.reset with pending := [.resetRelease false] }
  have controllers : ControllersOk unreleased := controllersOk_iff.2 (rateOk_powerOn _)
  have queues : QueuesOk unreleased := queuesOk_iff.2 (desksOk_powerOn _)
  have absent : PortBAbsent unreleased := portBAbsent_iff.2 fun _ => noPortB_powerOn _
  obtain ⟨queues', absent'⟩ := stepKeepsQueues unreleased State.reset step_unreleased
  obtain ⟨faults', tallies', budgets', -, link', balances'⟩ := stepKeepsBlockInvariants unreleased State.reset step_unreleased
  have noRecord : ∀ i, Table.get unreleased.unit.table i = none := State.powerOn_table _
  have arb : ∀ e, unreleased.arb e = powerOnArbiter := State.powerOn_arb _
  have flow : ∀ f, unreleased.flow f = powerOnArbiterFlow := State.powerOn_flow _
  have faults : FaultTableOk unreleased :=
    ⟨fun i x hx => (nomatch (noRecord i).symm.trans hx), fun i k x hx => (nomatch (noRecord i).symm.trans hx)⟩
  have tallies : TalliesOk unreleased :=
    ⟨List.nodup_nil, fun x hx => absurd hx List.not_mem_nil, fun e x hx => by
      rw [arb] at hx
      exact absurd hx List.not_mem_nil⟩
  have budgets : BudgetsOk unreleased := fun e => by
    rw [arb]
    exact .inr (Nat.le_refl _)
  have balances : BalancesOk unreleased := balancesOk_iff.2
    ⟨fun f => by
      rw [flow]
      exact ⟨Nat.zero_le _, fun _ => .inl rfl⟩, clearsOk_nil⟩
  have lock : LockOk State.reset := fun h => nomatch h
  exact ⟨queues' queues, absent' queues absent, faults' faults, tallies' tallies, budgets' budgets,
    (link' (linkOk_powerOn _)).1, stepKeepsReserveArithmetic _ _ configuration step_unreleased, lock,
    stepKeepsViews _ _ views step_unreleased, stepKeepsControllerBounds _ _ configuration views controllers step_unreleased,
    stepKeepsGrantAccounts _ _ (grantsOk_powerOn _) step_unreleased, balances' balances⟩

end Sys2Proof.Machine
end
